-- ==== Sys2Proof/Word.lean ====
section
/-! DEFINITION. The two value widths of the block: `u8` and `u16` (spec/00_scope.md R12, spec/10_state.md R20).
Every value is unsigned; there is no signed quantity. -/

namespace Sys2Proof

/-- `u8`, an unsigned 8-bit value; bit 0 is the least significant bit (R12). -/
abbrev Byte := BitVec 8

/-- `u16`, an unsigned 16-bit value (R12). -/
abbrev Word := BitVec 16

end Sys2Proof
end

