-- ==== Sys2Proof/Config.lean ====
section
/-! DEFINITION. What is fixed for the block and never changes while it runs: the constants of
spec/00_scope.md R8 and R9, the parameters of R11, and the FREE VALUES, each an opaque constant with no body,
for what the spec leaves open (spec/93_implementation_defined.md U1 to U4).
A claim names the constant, so that a corrected literal (U9) changes one definition. -/

namespace Sys2Proof

/-! ### Widths (R8)

They are reducible, so that a value of one of the types below is the `u16` or `u8` that spec/00_scope.md R12 says it is. -/

/-- `CRC_WIDTH`: the accumulator and the result of the Checksum Engine. -/
abbrev Config.crcWidth : Nat := 16

/-- `ADDR_WIDTH`: `device_addr`, the target and the discovered address. -/
abbrev Config.addrWidth : Nat := 16

/-- `DATA_ADDR_WIDTH`: `data_addr`. -/
abbrev Config.dataAddrWidth : Nat := 8

/-- A checksum. -/
abbrev Crc := BitVec Config.crcWidth

/-- A device address. -/
abbrev Addr := BitVec Config.addrWidth

/-- A device-internal address. -/
abbrev DataAddr := BitVec Config.dataAddrWidth

namespace Config

/-! ### Constants (R8) -/

/-- `START_MARKER`: the `start` byte of every frame the block sends. -/
def startMarker : Byte := 0x55#8

/-- `BROADCAST`: the device address that means all devices. -/
def broadcast : Addr := 0x0000#16

/-- `FN_READ`. -/
def fnRead : Byte := 0x01#8

/-- `FN_WRITE`. -/
def fnWrite : Byte := 0x02#8

/-- `FN_CONTROL`. -/
def fnControl : Byte := 0x03#8

/-- `FN_REQUEST`. -/
def fnRequest : Byte := 0x04#8

/-- `HEADER_LENGTH`: `start`, `device_addr`, `function`, `data_addr`. -/
def headerLength : Nat := 5

/-- `CHECKSUM_LENGTH`: the trailing CRC-16. -/
def checksumLength : Nat := 2

/-- `MIN_FRAME_LEN`: the first read of `DECODE`. -/
def minFrameLen : Nat := 7

/-- `MAX_PAYLOAD`: the greatest payload `ENCODE` accepts (spec/90_conflicts.md C1). -/
def maxPayload : Nat := 4

/-- `CRC_INIT`: the initial accumulator. -/
def crcInit : Crc := 0xFFFF#16

/-- `CRC_POLY`: XORed in after a shift that dropped a 1 (reflected form). -/
def crcPoly : Crc := 0xA001#16

/-- `EXTRA(FN_REQUEST)`: bytes `DECODE` reads after the first 7 for a REQUEST frame. -/
def extraRequest : Nat := 0

/-- `EXTRA(FN_WRITE)`: bytes `DECODE` reads after the first 7 for a WRITE frame. -/
def extraWrite : Nat := 1

/-- `ADDR_LEN_BYTE`: the first payload byte of the write-address command. -/
def addrLenByte : Byte := 0x02#8

/-- `WRITE_CMD_DATA_ADDR`: the `data_addr` of the write-address command. -/
def writeCmdDataAddr : DataAddr := 0x00#8

/-- `MAX_FRAME_LEN` (R9). -/
def maxFrameLen : Nat := 11

/-- The length of the write-address command (R9). -/
def commandLength : Nat := 10

/-- The exit status of a completed flow (R10, spec/42_handshake.md R215). -/
def exitOk : Nat := 0

/-- The exit status of a failure (R10, R215). -/
def exitFail : Nat := 255

/-! ### Parameters of the platform (R10)

No rule of the block reads them; the premise `PortReady` of Safety.lean does (spec/70_reset_and_hazards.md R273). -/

/-- The line discipline of a serial Transport Port. -/
structure Line where
  baud             : Nat
  dataBits         : Nat
  parity           : Bool
  stopBits         : Nat
  raw              : Bool
  interByteTimeout : Bool
deriving DecidableEq, Repr

/-- The one the source gives: 9600 baud, 8 data bits, no parity, 1 stop bit, raw, no inter-byte timeout. -/
def serialLine : Line :=
  { baud := 9600, dataBits := 8, parity := false, stopBits := 1, raw := true, interByteTimeout := false }

/-! ### Parameters (R11) -/

/-- `IDENT_REQUIRES_REQUEST`, decided `false` (spec/42_handshake.md R196, decision D14): `AwaitIdent` accepts every
frame `DECODE` returns. -/
def identRequiresRequest : Bool := false

/-- The named registers of spec/10_state.md, the domain of `REGMAP`. -/
inductive RegName
  | acc | txb | txlen | rxb | rxlen | rxfValid | phase | targetValid | target | discValid | disc
  | outcome | cause | crcRx | crcCalc | rxFn | rxAddr
deriving DecidableEq, Repr

/-- `REGMAP`, the bus address of each register: OPEN, used by no rule (spec/10_state.md R36, D2, U20). -/
opaque regmap : RegName → Nat

/-! ### Free values

Each is applied to the counter `State.draws`, which every use advances, so that two uses are two values.
Nothing in Lean can evaluate one: a claim proved about the machine holds whatever they are (assumption log 1 to 4). -/

/-- `ACC` after a reset or `HS.START` (U3, R43). -/
opaque freeAcc : Nat → Crc

/-- A byte of `TXB` that holds no value: all of it after a reset or `HS.START` (R43), the bytes at `TXLEN` and above
after an `ENCODE` (R24).
The second argument is the index. -/
opaque freeTxb : Nat → Nat → Byte

/-- A byte of `RXB` that holds no value: after a reset or `HS.START` (R43) and after a failed `DECODE` (R26, U4). -/
opaque freeRxb : Nat → Nat → Byte

/-- Which of its three legal values (R25) `RXLEN` holds after a failed `DECODE` (R26, U4). -/
opaque freeRxlen : Nat → Fin 3

/-- `TARGET` while `TARGET_VALID = 0` (R29, R43). -/
opaque freeTarget : Nat → Addr

/-- `DISC` while `DISC_VALID = 0` (R43). -/
opaque freeDisc : Nat → Addr

/-- `CRC_RX` while it is not meaningful (R33, R43). -/
opaque freeCrcRx : Nat → Crc

/-- `CRC_CALC` while it is not meaningful (R33, R43). -/
opaque freeCrcCalc : Nat → Crc

/-- `RX_FN` while it is not meaningful (R34, R43). -/
opaque freeRxFn : Nat → Byte

/-- `RX_ADDR` while it is not meaningful (R35, R43). -/
opaque freeRxAddr : Nat → Addr

/-- `RX_RESIDUE`: how many of the bytes that were there a failed read took; what is left is an arbitrary suffix
(spec/20_memory.md R71, U1). -/
opaque rxResidueTaken : Nat → Nat

/-- `TX_PARTIAL`: how many bytes of the command reached the wire on a `WriteError`, taken modulo its length so that it is
a proper initial part (spec/20_memory.md R72, U2). -/
opaque txPartial : Nat → Nat

end Config

end Sys2Proof
end

