-- ==== Sys2Proof/Machine/Crc16.lean ====
section
/-! DEFINITION. The steps of the Checksum Engine on its one register, the accumulator `ACC` (spec/40_checksum.md R141 to
R146), as functions of the accumulator's value.
`CRC16` reads and writes `ACC` only (R140), so these functions are the whole engine. -/

namespace Sys2Proof.Machine

/-- `CRC.INIT` (R143): the first step of every `CRC16`. -/
def crcInit : Crc := Config.crcInit

/-- `CRC.BIT` (R141): a logical shift right by one, masked to 15 bits (R144), then the XOR if the bit shifted out was 1.
The test is on the bit before the shift. -/
def crcBit (acc : Crc) : Crc :=
  let shifted := (acc >>> 1) &&& 0x7FFF#16
  if acc.getLsbD 0 then shifted ^^^ Config.crcPoly else shifted

/-- `CRC.BYTE` (R142): the byte goes into `ACC[7:0]`, then eight shifts. -/
def crcByte (acc : Crc) (x : Byte) : Crc :=
  Nat.repeat crcBit 8 (acc ^^^ x.setWidth Config.crcWidth)

/-- `crc16` (R146): the bytes in index order, no final XOR, no reversal. -/
def crc16 (s : List Byte) : Crc :=
  s.foldl crcByte crcInit

end Sys2Proof.Machine
end

