-- ==== Sys2Proof/Machine/Operands.lean ====
section
/-! DEFINITION. Field assembly (spec/30_encoding.md R100 to R110, spec/20_memory.md R74): how a 16-bit value is cut into
bytes and put together, the header number, the bytes of a frame, and the table `EXTRA`.
These are all the operand forms the block has (R110). -/

namespace Sys2Proof.Machine

/-- `lo(v) = v[7:0]` (spec/00_scope.md R12). -/
def loByte (v : Word) : Byte := v.setWidth 8

/-- `hi(v) = v[15:8]` (R12). -/
def hiByte (v : Word) : Byte := (v >>> 8).setWidth 8

/-- `le16(x, y) = x | (y << 8)` (spec/00_scope.md R13). -/
def le16 (x y : Byte) : Word := x.setWidth 16 ||| (y.setWidth 16 <<< 8)

/-- The five header bytes in wire order (R100, R107). -/
def headerBytes (start : Byte) (addr : Addr) (fn : Byte) (da : DataAddr) : List Byte :=
  [start, loByte addr, hiByte addr, fn, da]

/-- A 16-bit checksum as its two bytes, low byte first (R108). -/
def checksumBytes (c : Crc) : List Byte := [loByte c, hiByte c]

/-- The bytes of a frame whose checksum field holds `c`, whatever `c` is (R100). -/
def frameBytes (start : Byte) (addr : Addr) (fn : Byte) (da : DataAddr) (pl : List Byte) (c : Crc) : List Byte :=
  headerBytes start addr fn da ++ pl ++ checksumBytes c

/-- The bytes a checksum covers, `start..payload` inclusive (R108). -/
def frameBody (start : Byte) (addr : Addr) (fn : Byte) (da : DataAddr) (pl : List Byte) : List Byte :=
  headerBytes start addr fn da ++ pl

/-- The frame `ENCODE` builds: start marker, and the computed checksum (R106, spec/41_codec.md R160). -/
def builtFrame (fn : Byte) (addr : Addr) (da : DataAddr) (pl : List Byte) : List Byte :=
  frameBytes Config.startMarker addr fn da pl (crc16 (frameBody Config.startMarker addr fn da pl))

/-- The payload of the write-address command, `[0x02, TARGET[7:0], TARGET[15:8]]` (R109). -/
def commandPayload (target : Addr) : List Byte :=
  [Config.addrLenByte, loByte target, hiByte target]

/-- The write-address command, format `F10` (R105): a function of the target alone (spec/42_handshake.md R203). -/
def commandBytes (target : Addr) : List Byte :=
  builtFrame Config.fnWrite Config.broadcast Config.writeCmdDataAddr (commandPayload target)

/-- The checksum of the write-address command: `crc16(bytes 0..7)` (R105). -/
def commandChecksum (target : Addr) : Crc :=
  crc16 (frameBody Config.startMarker Config.broadcast Config.fnWrite Config.writeCmdDataAddr (commandPayload target))

/-- The table `EXTRA`: the bytes `DECODE` reads after the first 7, by function; no entry for a function that is not admitted
(R118). -/
def extra (fn : Byte) : Option Nat :=
  if fn = Config.fnRequest then some Config.extraRequest
  else if fn = Config.fnWrite then some Config.extraWrite
  else none

/-- The header number `H` of the five header bytes (R102): `start` is `H[7:0]`, `device_addr` `H[23:8]`, `function`
`H[31:24]`, `data_addr` `H[39:32]`. -/
def headerNumber (b0 b1 b2 b3 b4 : Byte) : BitVec 40 :=
  b0.setWidth 40 ||| (b1.setWidth 40 <<< 8) ||| (b2.setWidth 40 <<< 16) ||| (b3.setWidth 40 <<< 24)
    ||| (b4.setWidth 40 <<< 32)

/-- A frame kind is selected when `H & mask = match` (R102). -/
structure KindRow where
  mask  : BitVec 40
  value : BitVec 40
deriving DecidableEq, Repr

/-- `IDENT`'s row of spec/opcode_table.json (R103). -/
def identRow : KindRow := ⟨0x00FF000000#40, 0x0004000000#40⟩

/-- `CONFIRM`'s row (R104). -/
def confirmRow : KindRow := ⟨0x00FF000000#40, 0x0002000000#40⟩

/-- `SETADDR`'s row (R105): all 40 header bits. -/
def setAddrRow : KindRow := ⟨0xFFFFFFFFFF#40, 0x0002000055#40⟩

/-- `FRAME.READ`'s row (R114). -/
def frameReadRow : KindRow := ⟨0x00FF000000#40, 0x0001000000#40⟩

/-- `FRAME.CONTROL`'s row (R114). -/
def frameControlRow : KindRow := ⟨0x00FF000000#40, 0x0003000000#40⟩

/-- Whether the header number `h` selects the kind of the row. -/
def KindRow.selects (r : KindRow) (h : BitVec 40) : Bool := decide (h &&& r.mask = r.value)

end Sys2Proof.Machine
end

