-- ==== Sys2Proof/Syntax.lean ====
section
/-! DEFINITION. The block's instructions, one constructor for each row of spec/opcode_table.json, and the words they
are read from.
The block has no stored program (spec/00_scope.md R1): its instructions are its four operations, the six values of `PHASE`
and the five frame kinds (spec/30_encoding.md R112). -/

namespace Sys2Proof

/-- The instructions, in the order of spec/opcode_table.json. -/
inductive Instr
  /-- `CRC16 s` (R140). -/
  | crc16 (s : List Byte)
  /-- `ENCODE fn, addr, da, pl` (R160). -/
  | encode (fn : Byte) (addr : Addr) (da : DataAddr) (pl : List Byte)
  /-- `DECODE` (R164). -/
  | decode
  /-- `HS.START target` (R191). -/
  | hsStart (target : Option Addr)
  /-- The rest state after reset (R27, R194). -/
  | idle
  /-- Step `AwaitIdent` (R195). -/
  | awaitIdent
  /-- Step `IdentFound` (R199). -/
  | identFound
  /-- Step `BuildingWriteCommand` (R200, R201). -/
  | buildingWriteCommand
  /-- Step `AwaitConfirm` (R205). -/
  | awaitConfirm
  /-- `Done`, terminal (R210). -/
  | done
  /-- The inbound REQUEST frame, format `F7` (R103). -/
  | ident (start : Byte) (addr : Addr) (da : DataAddr) (checksum : Crc)
  /-- The inbound WRITE frame, format `F8` (R104); `p` is the payload byte, which nothing interprets. -/
  | confirm (start : Byte) (addr : Addr) (da : DataAddr) (p : Byte) (checksum : Crc)
  /-- The outbound write-address command, format `F10` (R105): the header and the length byte are fixed. -/
  | setAddr (target : Addr) (checksum : Crc)
  /-- An inbound READ frame, format `FE` (R114). -/
  | frameRead (start : Byte) (addr : Addr) (da : DataAddr) (pl : List Byte) (checksum : Crc)
  /-- An inbound CONTROL frame, format `FE` (R114). -/
  | frameControl (start : Byte) (addr : Addr) (da : DataAddr) (pl : List Byte) (checksum : Crc)
deriving DecidableEq, Repr

/-- The operands HOST hands over with an operation (spec/70_reset_and_hazards.md R278).
The spec gives them no binary form, only the 2-bit `OPSEL` (R121): each operation reads the ones it has and no other.
`bytes` is `CRC16`'s string and `ENCODE`'s payload. -/
structure Operands where
  bytes  : List Byte := []
  fn     : Byte := 0#8
  addr   : Addr := 0#16
  da     : DataAddr := 0#8
  target : Option Addr := none
deriving DecidableEq, Repr

/-- The direction a frame travels in: `CONFIRM` and `SETADDR` share the function code WRITE and are told apart by direction
only (spec/opcode_table.json, the note of `CONFIRM`). -/
inductive Direction
  | inbound
  | outbound
deriving DecidableEq, Repr

/-- What an instruction is decoded from: the three selector spaces of R112. -/
inductive Code
  /-- Format `OP`: the 2-bit `OPSEL` and the operands. -/
  | op (opsel : BitVec 2) (arg : Operands)
  /-- Format `PHASE`: the 3-bit `PHASE`. -/
  | phase (code : BitVec 3)
  /-- Formats `F7`, `F8`, `F10`, `FE`: the bytes of one whole frame, first on the wire first. -/
  | frame (dir : Direction) (bytes : List Byte)
deriving DecidableEq, Repr

end Sys2Proof
end

