-- ==== Sys2Proof/WellFormed.lean ====
section
/-! DEFINITION. Which instruction terms are instructions of the block.
`ENCODE` with a payload over 4 bytes or an unassigned function code IS an instruction: HOST can issue it and the block
answers `EncodePrecondition` (spec/41_codec.md R162).
So is `HS.START` with target 0 (spec/42_handshake.md R192).
A frame of payload over 4 bytes is no frame (spec/30_encoding.md R100).
A received frame may carry any checksum, `DECODE` compares it; the frame the block sends carries the computed one (R105, R108). -/

namespace Sys2Proof

open Sys2Proof.Machine

/-- A frame's payload is 0 to 4 bytes (R100), and the command's checksum is that of its bytes (R105); everything else is within
its type. -/
def Instr.wellFormed : Instr → Bool
  | .crc16 _ => true
  | .encode _ _ _ _ => true
  | .decode => true
  | .hsStart _ => true
  | .idle => true
  | .awaitIdent => true
  | .identFound => true
  | .buildingWriteCommand => true
  | .awaitConfirm => true
  | .done => true
  | .ident _ _ _ _ => true
  | .confirm _ _ _ _ _ => true
  | .setAddr target c => decide (c = commandChecksum target)
  | .frameRead _ _ _ pl _ => decide (pl.length ≤ Config.maxPayload)
  | .frameControl _ _ _ pl _ => decide (pl.length ≤ Config.maxPayload)

end Sys2Proof
end

