-- ==== Sys2Proof/Decode.lean ====
section
/-! DEFINITION. Reading an instruction from its selector: `OPSEL` (spec/30_encoding.md R121), `PHASE` (spec/10_state.md R27),
or the bytes of a frame (R102 to R106).
Total, and every code that is no instruction is rejected by name.
After it the encoder, written from the same tables. -/

namespace Sys2Proof

open Sys2Proof.Machine

/-- Why a code is no instruction. -/
inductive Reject
  /-- A value of `PHASE` that no rule writes: 6 or 7 (R27). -/
  | unassignedPhase (code : BitVec 3)
  /-- Fewer bytes than the minimum frame (R100). -/
  | shortFrame (length : Nat)
  /-- A function code with no name (R113). -/
  | unassignedFunction (fn : Byte)
  /-- The bytes are not as many as the frame kind has (R103, R104, R106). -/
  | wrongLength (fn : Byte) (length : Nat)
  /-- An outbound frame that is not the write-address command, the only frame a run sends (R105, R106). -/
  | notTheCommand
deriving DecidableEq, Repr

/-- What a code decodes to. -/
inductive Decoded
  | ok (i : Instr)
  | rejected (why : Reject)
deriving DecidableEq, Repr

/-- The instruction, if there is one. -/
def Decoded.instr : Decoded → Option Instr
  | .ok i => some i
  | .rejected _ => none

/-! ### Decoding -/

/-- `OPSEL` (R121): all four codes are assigned. -/
def decodeOp (opsel : BitVec 2) (arg : Operands) : Instr :=
  if opsel = 0b00#2 then .crc16 arg.bytes
  else if opsel = 0b01#2 then .encode arg.fn arg.addr arg.da arg.bytes
  else if opsel = 0b10#2 then .decode
  else .hsStart arg.target

/-- `PHASE` (R27): 6 and 7 are assigned to no phase. -/
def decodePhase (code : BitVec 3) : Decoded :=
  if code = 0#3 then .ok .idle
  else if code = 1#3 then .ok .awaitIdent
  else if code = 2#3 then .ok .identFound
  else if code = 3#3 then .ok .buildingWriteCommand
  else if code = 4#3 then .ok .awaitConfirm
  else if code = 5#3 then .ok .done
  else .rejected (.unassignedPhase code)

/-- The payload and the two checksum bytes that stand after the header of a generic frame (R100). -/
def splitTail (tail : List Byte) : Option (List Byte × Crc) :=
  match tail.drop (tail.length - Config.checksumLength) with
  | [c, d] =>
    if tail.length ≤ Config.maxPayload + Config.checksumLength then
      some (tail.take (tail.length - Config.checksumLength), le16 c d)
    else none
  | _ => none

/-- One whole inbound frame: the kind is selected by the header number (R102), and the bytes are as many as the kind has. -/
def decodeInbound (bytes : List Byte) : Decoded :=
  match bytes with
  | b0 :: b1 :: b2 :: b3 :: b4 :: tail =>
    let h := headerNumber b0 b1 b2 b3 b4
    if bytes.length < Config.minFrameLen then .rejected (.shortFrame bytes.length)
    else if identRow.selects h then
      match tail with
      | [c, d] => .ok (.ident b0 (le16 b1 b2) b4 (le16 c d))
      | _ => .rejected (.wrongLength b3 bytes.length)
    else if confirmRow.selects h then
      match tail with
      | [p, c, d] => .ok (.confirm b0 (le16 b1 b2) b4 p (le16 c d))
      | _ => .rejected (.wrongLength b3 bytes.length)
    else if frameReadRow.selects h then
      match splitTail tail with
      | some (pl, c) => .ok (.frameRead b0 (le16 b1 b2) b4 pl c)
      | none => .rejected (.wrongLength b3 bytes.length)
    else if frameControlRow.selects h then
      match splitTail tail with
      | some (pl, c) => .ok (.frameControl b0 (le16 b1 b2) b4 pl c)
      | none => .rejected (.wrongLength b3 bytes.length)
    else .rejected (.unassignedFunction b3)
  | _ => .rejected (.shortFrame bytes.length)

/-- One whole outbound frame: the only one a run sends is the write-address command, whose header and length byte are fixed
(R105). -/
def decodeOutbound (bytes : List Byte) : Decoded :=
  match bytes with
  | [b0, b1, b2, b3, b4, p, q, r, c, d] =>
    if setAddrRow.selects (headerNumber b0 b1 b2 b3 b4) && decide (p = Config.addrLenByte) then
      .ok (.setAddr (le16 q r) (le16 c d))
    else .rejected .notTheCommand
  | _ => .rejected .notTheCommand

/-- The decoder. -/
def decode : Code → Decoded
  | .op opsel arg => .ok (decodeOp opsel arg)
  | .phase code => decodePhase code
  | .frame .inbound bytes => decodeInbound bytes
  | .frame .outbound bytes => decodeOutbound bytes

/-! ### Encoding -/

/-- The code of an instruction (R121, R27, R103 to R106).
An operation's operands that it does not have are left at zero. -/
def encode : Instr → Code
  | .crc16 s => .op 0b00#2 { bytes := s }
  | .encode fn addr da pl => .op 0b01#2 { bytes := pl, fn := fn, addr := addr, da := da }
  | .decode => .op 0b10#2 {}
  | .hsStart target => .op 0b11#2 { target := target }
  | .idle => .phase 0#3
  | .awaitIdent => .phase 1#3
  | .identFound => .phase 2#3
  | .buildingWriteCommand => .phase 3#3
  | .awaitConfirm => .phase 4#3
  | .done => .phase 5#3
  | .ident start addr da c => .frame .inbound (frameBytes start addr Config.fnRequest da [] c)
  | .confirm start addr da p c => .frame .inbound (frameBytes start addr Config.fnWrite da [p] c)
  | .setAddr target c =>
    .frame .outbound
      (frameBytes Config.startMarker Config.broadcast Config.fnWrite Config.writeCmdDataAddr (commandPayload target) c)
  | .frameRead start addr da pl c => .frame .inbound (frameBytes start addr Config.fnRead da pl c)
  | .frameControl start addr da pl c => .frame .inbound (frameBytes start addr Config.fnControl da pl c)

/-! ### The host's word

spec/opcode_table.json numbers a row's bits from the least significant bit of the first byte; `OPSEL` and `PHASE` are two
selector spaces of the block that share the numbers 0 to 3 (assumption log 12). -/

/-- The first `n` bytes of the number `w`, the least significant byte first. -/
def wordBytes (n w : Nat) : List Byte :=
  (List.range n).map fun k => BitVec.ofNat 8 (w >>> (8 * k))

/-- The code a word of `nbits` bits stands for.
Up to 8 bits it is a selector: a 2-bit `OPSEL`, a 3-bit `PHASE`; where the width does not say which (a whole byte), 0 to 3
are `OPSEL` and 4 to 7 `PHASE`.
A longer word is a frame, padded with zero bytes to its kind's least length; the 40 header bits of `SETADDR` on a word of 10
bytes make it the outbound command. -/
def tableCode (nbits w : Nat) : Option Code :=
  if nbits = 3 then
    if w < 8 then some (.phase (BitVec.ofNat 3 w)) else none
  else if nbits ≤ 8 then
    if w < 4 then some (.op (BitVec.ofNat 2 w) {})
    else if w < 8 then some (.phase (BitVec.ofNat 3 w))
    else none
  else
    let n := (nbits + 7) / 8
    if n = Config.commandLength ∧ setAddrRow.selects (BitVec.ofNat 40 w) = true then
      some (.frame .outbound (wordBytes n w))
    else if confirmRow.selects (BitVec.ofNat 40 w) then
      some (.frame .inbound (wordBytes (max n (Config.minFrameLen + Config.extraWrite)) w))
    else
      some (.frame .inbound (wordBytes (max n Config.minFrameLen) w))

/-- The instruction the decoder reads from a table word. -/
def decodeTableWord (nbits w : Nat) : Option Instr :=
  (tableCode nbits w).bind fun c => (decode c).instr

end Sys2Proof
end

