-- ==== Sys2Proof/Machine/State.lean ====
section
/-! DEFINITION. The state of the block and of its environment, as plain data (spec/10_state.md R20 to R45,
spec/20_memory.md R60, R61), and the state after reset (R43).
There is no addressable memory (spec/20_memory.md R65): what stands in its place is the two buffers, the RX stream and the TX
history. -/

namespace Sys2Proof.Machine

/-! ### Value types -/

/-- A decoded frame (R21): `start` and `function` hold whatever bytes were received. -/
structure Frame where
  start      : Byte
  deviceAddr : Addr
  function   : Byte
  dataAddr   : DataAddr
  payload    : List Byte
  checksum   : Crc
deriving DecidableEq, Repr

/-- How a `DECODE` fails (R28). -/
inductive DecodeError
  | shortRead
  | unexpectedFunction (fn : Byte)
  | checksumMismatch (received computed : Crc)
deriving DecidableEq, Repr

/-- The result of a run (R28). -/
inductive RunOutcome
  | noChange
  | confirmed (addr : Addr)
  | rejectedAddress (addr : Addr)
  | rejectedFunction (fn : Byte)
  | identFailed (e : DecodeError)
  | writeFailed
  | confirmFailed (e : DecodeError)
deriving DecidableEq, Repr

/-- The values of the 3-bit register `PHASE` (R27); their numbers are `Phase.code`.
6 and 7 are never written, so they have no constructor. -/
inductive Phase
  | idle
  | awaitIdent
  | identFound
  | buildingWriteCommand
  | awaitConfirm
  | done
deriving DecidableEq, Repr

/-- The values of the 3-bit register `OUTCOME` (R31). -/
inductive OutcomeCode
  | none
  | noChange
  | confirmed
  | rejectedAddress
  | rejectedFunction
  | identFailed
  | writeFailed
  | confirmFailed
deriving DecidableEq, Repr

/-- The values of the 3-bit register `CAUSE` (R32, spec/60_exceptions.md R230).
No rule writes `encodePrecondition` into the register (R235). -/
inductive Cause
  | none
  | shortRead
  | writeError
  | checksumMismatch
  | unexpectedFunction
  | addressRejected
  | confirmFunctionMismatch
  | encodePrecondition
deriving DecidableEq, Repr

/-- The eleven bytes `TXB[0..10]` (R24). -/
structure TxBuf where
  b0 : Byte
  b1 : Byte
  b2 : Byte
  b3 : Byte
  b4 : Byte
  b5 : Byte
  b6 : Byte
  b7 : Byte
  b8 : Byte
  b9 : Byte
  b10 : Byte
deriving DecidableEq, Repr

/-- The eight bytes `RXB[0..7]` (R25). -/
structure RxBuf where
  b0 : Byte
  b1 : Byte
  b2 : Byte
  b3 : Byte
  b4 : Byte
  b5 : Byte
  b6 : Byte
  b7 : Byte
deriving DecidableEq, Repr

/-! ### The environment -/

/-- What TRANSPORT does when the bytes of the RX stream run out (spec/20_memory.md R60). -/
inductive RxEnd
  /-- The channel signals that it cannot supply them. -/
  | closes
  /-- Nothing is signalled. -/
  | stalls
deriving DecidableEq, Repr

/-- TRANSPORT's answer to a `MemWrite` (spec/20_memory.md R67); no answer in the list is the third case, never. -/
inductive WriteAnswer
  | ok
  | writeError
deriving DecidableEq, Repr

/-- A transport call in flight: its kind and its byte count (R41 (b)). -/
inductive Call
  | read (n : Nat)
  | write (n : Nat)
deriving DecidableEq, Repr

/-- What the environment does next (spec/00_scope.md R15): the five moves of HOST (spec/70_reset_and_hazards.md R278), and
TRANSPORT's.
No move takes bytes out of the RX stream, neither during a run nor between two: the model's choice, the spec leaves open how the
stream comes to be empty before `HS.START` (assumption log 22). -/
inductive Input
  /-- HOST issues an operation: its `OPSEL` and its operands. -/
  | command (opsel : BitVec 2) (arg : Operands)
  /-- HOST waits; the block takes its own step. -/
  | wait
  /-- HOST reads the result (spec/42_handshake.md R214). -/
  | readResult
  /-- HOST resets the block (R270). -/
  | reset
  /-- Bytes from DEVICE reach TRANSPORT (spec/20_memory.md R83). -/
  | received (bytes : List Byte)
  /-- From now on TRANSPORT treats a lack of bytes so: a timeout at the Transport Port is `closes` (R280). -/
  | channel (e : RxEnd)
  /-- TRANSPORT's answer to a write. -/
  | writeAnswer (a : WriteAnswer)
deriving DecidableEq, Repr

/-- Why an operation is refused, with no effect (spec/00_scope.md R16 (c), spec/60_exceptions.md R235).
A refusal is an answer to HOST and the machine goes on: it is no stop of the model. -/
inductive RefuseReason
  | encodePrecondition
  | busy
deriving DecidableEq, Repr

/-- What HOST sees when it reads the result (R36, R38, R214).
A register that holds no value is read as `none` (R44: such a read is refused). -/
structure ResultView where
  phase      : Phase
  busy       : Bool
  done       : Bool
  target     : Option Addr
  discovered : Option Addr
  outcome    : OutcomeCode
  cause      : Cause
  result     : Option RunOutcome
  frame      : Option Frame
  built      : List Byte
deriving DecidableEq, Repr

/-- What HOST got back from its latest move (R278, last column). -/
inductive Reply
  | nothing
  | crc (value : Crc)
  | bytes (frame : List Byte)
  | frame (f : Frame)
  | error (e : DecodeError)
  | refused (why : RefuseReason)
  | result (view : ResultView)
deriving DecidableEq, Repr

/-! ### The state -/

/-- Everything the spec gives the block and the environment its rules are stated over (R40). -/
structure State where
  /-- `ACC`, the accumulator of the Checksum Engine (R23). -/
  acc : Crc
  /-- `TXB`, the frame `ENCODE` built (R24). -/
  txb : TxBuf
  /-- `TXLEN`, how many bytes of it there are (R24). -/
  txlen : BitVec 4
  /-- `RXB`, the bytes `DECODE` has read (R25). -/
  rxb : RxBuf
  /-- `RXLEN`, how many (R25). -/
  rxlen : BitVec 4
  /-- `RXF_VALID`: the latest `DECODE` ended with a value (R26). -/
  rxfValid : Bool
  /-- `PHASE`, the sequencer's program counter (R27). -/
  phase : Phase
  /-- `TARGET_VALID` (R29). -/
  targetValid : Bool
  /-- `TARGET` (R29). -/
  target : Addr
  /-- `DISC_VALID` (R30). -/
  discValid : Bool
  /-- `DISC`, the discovered address (R30). -/
  disc : Addr
  /-- `OUTCOME` (R31). -/
  outcome : OutcomeCode
  /-- `CAUSE` (R32). -/
  cause : Cause
  /-- `CRC_RX` (R33). -/
  crcRx : Crc
  /-- `CRC_CALC` (R33). -/
  crcCalc : Crc
  /-- `RX_FN` (R34). -/
  rxFn : Byte
  /-- `RX_ADDR` (R35). -/
  rxAddr : Addr
  /-- The transport call in flight while the block is held (R41 (b)).
  A read of 1 byte is the stage of `DECODE` of R41 (c). -/
  inFlight : Option Call
  /-- The RX stream: the bytes not yet read (spec/20_memory.md R60). -/
  rx : List Byte
  /-- The RX stream: what happens when they run out (R60). -/
  rxEnd : RxEnd
  /-- The TX history (spec/20_memory.md R61); it holds no byte of a write that is not answered (assumption log 21). -/
  tx : List Byte
  /-- The answers TRANSPORT will give to the writes, in order (R42, R67). -/
  writeAnswers : List WriteAnswer
  /-- The moves of the environment, in the order they are made (R15, R278); an operation of HOST can wait there (assumption log 9). -/
  inbox : List Input
  /-- What HOST got back from its latest move (R278). -/
  reply : Reply
  /-- The model's own: how many free values have been used. -/
  draws : Nat
deriving DecidableEq, Repr

/-! ### Stops -/

/-- The block has no fault: its errors end a run in `Done` (spec/60_exceptions.md R244), its refusals are answers to HOST (R235),
and a call that is never answered holds it (spec/70_reset_and_hazards.md R280).
So no constructor. -/
inductive Fault
deriving DecidableEq, Repr

/-- No instruction of the block is without a meaning. -/
inductive Refusal
  /-- An arm of `exec` that has no meaning yet; raised by no arm.
  Safe: nothing follows a stop. -/
  | notModelled (mnemonic : String)
deriving DecidableEq, Repr

/-! ### Reset -/

/-- `TXB` when none of it holds a value. -/
def freeTxBuf (n : Nat) : TxBuf :=
  ⟨Config.freeTxb n 0, Config.freeTxb n 1, Config.freeTxb n 2, Config.freeTxb n 3, Config.freeTxb n 4, Config.freeTxb n 5,
   Config.freeTxb n 6, Config.freeTxb n 7, Config.freeTxb n 8, Config.freeTxb n 9, Config.freeTxb n 10⟩

/-- `RXB` when none of it holds a value. -/
def freeRxBuf (n : Nat) : RxBuf :=
  ⟨Config.freeRxb n 0, Config.freeRxb n 1, Config.freeRxb n 2, Config.freeRxb n 3, Config.freeRxb n 4, Config.freeRxb n 5,
   Config.freeRxb n 6, Config.freeRxb n 7⟩

/-- The state after a reset (R43, middle column; spec/70_reset_and_hazards.md R270), with an environment that has nothing to
deliver (assumption log 5).
Every value the table calls unspecified is a free value: a model must not choose zero for it (R44). -/
def State.reset : State where
  acc := Config.freeAcc 0
  txb := freeTxBuf 0
  txlen := 0#4
  rxb := freeRxBuf 0
  rxlen := 0#4
  rxfValid := false
  phase := .idle
  targetValid := false
  target := Config.freeTarget 0
  discValid := false
  disc := Config.freeDisc 0
  outcome := .none
  cause := .none
  crcRx := Config.freeCrcRx 0
  crcCalc := Config.freeCrcCalc 0
  rxFn := Config.freeRxFn 0
  rxAddr := Config.freeRxAddr 0
  inFlight := none
  rx := []
  rxEnd := .stalls
  tx := []
  writeAnswers := []
  inbox := []
  reply := .nothing
  draws := 1

end Sys2Proof.Machine
end

