-- ==== Sys2Proof/Machine/Flags.lean ====
section
/-! DEFINITION. The status flags, which are derived from registers and are no state of their own (spec/10_state.md R37), the
numeric codes of the enumerated registers (R27, R31, R32), and what HOST makes of an outcome (R28, R215).
The block has no arithmetic condition code (R37). -/

namespace Sys2Proof.Machine

/-! ### Codes -/

/-- `PHASE` as its 3 bits (R27). -/
def Phase.code : Phase → BitVec 3
  | .idle => 0#3
  | .awaitIdent => 1#3
  | .identFound => 2#3
  | .buildingWriteCommand => 3#3
  | .awaitConfirm => 4#3
  | .done => 5#3

/-- The phase of a code; 6 and 7 are none (R27). -/
def Phase.ofCode (c : BitVec 3) : Option Phase :=
  if c = 0#3 then some .idle
  else if c = 1#3 then some .awaitIdent
  else if c = 2#3 then some .identFound
  else if c = 3#3 then some .buildingWriteCommand
  else if c = 4#3 then some .awaitConfirm
  else if c = 5#3 then some .done
  else none

/-- `OUTCOME` as its 3 bits (R31). -/
def OutcomeCode.code : OutcomeCode → BitVec 3
  | .none => 0#3
  | .noChange => 1#3
  | .confirmed => 2#3
  | .rejectedAddress => 3#3
  | .rejectedFunction => 4#3
  | .identFailed => 5#3
  | .writeFailed => 6#3
  | .confirmFailed => 7#3

/-- `CAUSE` as its 3 bits (R32). -/
def Cause.code : Cause → BitVec 3
  | .none => 0#3
  | .shortRead => 1#3
  | .writeError => 2#3
  | .checksumMismatch => 3#3
  | .unexpectedFunction => 4#3
  | .addressRejected => 5#3
  | .confirmFunctionMismatch => 6#3
  | .encodePrecondition => 7#3

/-! ### Derived flags (R37) -/

/-- The four phases of a run. -/
def Phase.inRun : Phase → Bool
  | .awaitIdent => true
  | .identFound => true
  | .buildingWriteCommand => true
  | .awaitConfirm => true
  | .idle => false
  | .done => false

/-- `BUSY`. -/
def State.busy (s : State) : Bool := s.phase.inRun

/-- `DONE`. -/
def State.isDone (s : State) : Bool := decide (s.phase = .done)

/-- A `DECODE` that HOST issued outside a run is held in its transport call, so HOST's call of it has not returned. -/
def State.hostHeld (s : State) : Bool := !s.busy && s.inFlight.isSome

/-- The block is where a `DECODE` takes the next bytes of the RX stream: in `AwaitIdent` or `AwaitConfirm`, or held in a
`DECODE` that HOST issued. -/
def State.reading (s : State) : Bool :=
  match s.phase with
  | .awaitIdent => true
  | .awaitConfirm => true
  | .identFound => false
  | .buildingWriteCommand => false
  | .idle => s.inFlight.isSome
  | .done => s.inFlight.isSome

/-! ### Causes and outcomes -/

/-- The cause of a decode error (R32, spec/60_exceptions.md R230). -/
def DecodeError.cause : DecodeError → Cause
  | .shortRead => .shortRead
  | .unexpectedFunction _ => .unexpectedFunction
  | .checksumMismatch _ _ => .checksumMismatch

/-- The decode error that the registers hold (R32 to R34); a cause that is no decode error gives none. -/
def State.latchedError (s : State) : Option DecodeError :=
  match s.cause with
  | .shortRead => some .shortRead
  | .unexpectedFunction => some (.unexpectedFunction s.rxFn)
  | .checksumMismatch => some (.checksumMismatch s.crcRx s.crcCalc)
  | .none => none
  | .writeError => none
  | .addressRejected => none
  | .confirmFunctionMismatch => none
  | .encodePrecondition => none

/-- The outcome assembled from `OUTCOME`, `CAUSE`, `CRC_RX`, `CRC_CALC`, `RX_FN`, `RX_ADDR` (spec/42_handshake.md R214). -/
def State.result (s : State) : Option RunOutcome :=
  match s.outcome with
  | .none => none
  | .noChange => some .noChange
  | .confirmed => some (.confirmed s.rxAddr)
  | .rejectedAddress => some (.rejectedAddress s.rxAddr)
  | .rejectedFunction => some (.rejectedFunction s.rxFn)
  | .identFailed => s.latchedError.map .identFailed
  | .writeFailed => some .writeFailed
  | .confirmFailed => s.latchedError.map .confirmFailed

/-- The discovered address, if it holds a value (R30). -/
def State.discovered (s : State) : Option Addr := if s.discValid then some s.disc else none

/-- The target, if HOST supplied one (R29). -/
def State.suppliedTarget (s : State) : Option Addr := if s.targetValid then some s.target else none

/-- The exit status HOST's command line reports for an outcome (spec/42_handshake.md R215). -/
def RunOutcome.exitStatus : RunOutcome → Nat
  | .noChange => Config.exitOk
  | .confirmed _ => Config.exitOk
  | .rejectedAddress _ => Config.exitOk
  | .rejectedFunction _ => Config.exitOk
  | .identFailed _ => Config.exitFail
  | .writeFailed => Config.exitFail
  | .confirmFailed _ => Config.exitFail

end Sys2Proof.Machine
end

