-- ==== Sys2Proof/Machine/Ops.lean ====
section
/-! DEFINITION. The shared operations: one update per register group, the buffers, the two calls of the Transport Port
(spec/20_memory.md R66, R67), how a run ends on a cause (spec/60_exceptions.md R244), reset, the result read, and where the block's
next instruction stands. -/

namespace Sys2Proof.Machine

/-! ### Buffers -/

/-- The eleven bytes in index order. -/
def TxBuf.toList (b : TxBuf) : List Byte :=
  [b.b0, b.b1, b.b2, b.b3, b.b4, b.b5, b.b6, b.b7, b.b8, b.b9, b.b10]

/-- The bytes `bs` from index 0 on; above them what `b` holds. -/
def TxBuf.load (b : TxBuf) (bs : List Byte) : TxBuf :=
  ⟨bs.getD 0 b.b0, bs.getD 1 b.b1, bs.getD 2 b.b2, bs.getD 3 b.b3, bs.getD 4 b.b4, bs.getD 5 b.b5, bs.getD 6 b.b6,
   bs.getD 7 b.b7, bs.getD 8 b.b8, bs.getD 9 b.b9, bs.getD 10 b.b10⟩

/-- The eight bytes in index order. -/
def RxBuf.toList (b : RxBuf) : List Byte :=
  [b.b0, b.b1, b.b2, b.b3, b.b4, b.b5, b.b6, b.b7]

/-- `RXB[0..6] <- bs`; `RXB[7]` stays. -/
def RxBuf.loadFirst (b : RxBuf) (bs : List Byte) : RxBuf :=
  ⟨bs.getD 0 b.b0, bs.getD 1 b.b1, bs.getD 2 b.b2, bs.getD 3 b.b3, bs.getD 4 b.b4, bs.getD 5 b.b5, bs.getD 6 b.b6, b.b7⟩

/-- `RXB[7] <- bs[0]`. -/
def RxBuf.loadExtra (b : RxBuf) (bs : List Byte) : RxBuf :=
  ⟨b.b0, b.b1, b.b2, b.b3, b.b4, b.b5, b.b6, bs.getD 0 b.b7⟩

/-- `RXLEN` when it holds no value: one of its three legal values (R25, R26). -/
def freeRxlen (n : Nat) : BitVec 4 :=
  match Config.freeRxlen n with
  | 0 => 0#4
  | 1 => 7#4
  | 2 => 8#4

/-- `TXB[0..TXLEN-1]`: the frame `ENCODE` built (R24). -/
def State.txBytes (s : State) : List Byte := s.txb.toList.take s.txlen.toNat

/-- `RXB[0..RXLEN-1]`: the bytes `DECODE` has read (R25). -/
def State.rxBytes (s : State) : List Byte := s.rxb.toList.take s.rxlen.toNat

/-- `RXB[0..L-3]`: the bytes the received checksum covers (spec/41_codec.md R168). -/
def State.rxCovered (s : State) : List Byte := s.rxBytes.take (s.rxlen.toNat - Config.checksumLength)

/-- `le16(RXB[L-2], RXB[L-1])`: the received checksum (R168). -/
def State.rxChecksum (s : State) : Crc :=
  le16 (s.rxBytes.getD (s.rxlen.toNat - 2) 0#8) (s.rxBytes.getD (s.rxlen.toNat - 1) 0#8)

/-- The frame view of `RXB` (R26). -/
def State.frameView (s : State) : Frame where
  start := s.rxb.b0
  deviceAddr := le16 s.rxb.b1 s.rxb.b2
  function := s.rxb.b3
  dataAddr := s.rxb.b4
  payload := s.rxCovered.drop Config.headerLength
  checksum := s.rxChecksum

/-! ### Updates -/

/-- What HOST gets back (spec/70_reset_and_hazards.md R278). -/
def State.withReply (s : State) (r : Reply) : State := { s with reply := r }

/-- The transport call in flight (R41 (b)). -/
def State.withCall (s : State) (c : Option Call) : State := { s with inFlight := c }

/-- The unread bytes of the RX stream. -/
def State.withRx (s : State) (bs : List Byte) : State := { s with rx := bs }

/-- What happens when the bytes of the RX stream run out. -/
def State.withRxEnd (s : State) (e : RxEnd) : State := { s with rxEnd := e }

/-- Bytes appended to the TX history, in index order (spec/20_memory.md R82). -/
def State.appendTx (s : State) (bs : List Byte) : State := { s with tx := s.tx ++ bs }

/-- TRANSPORT's answers to come. -/
def State.withAnswers (s : State) (as : List WriteAnswer) : State := { s with writeAnswers := as }

/-- The environment's moves to come. -/
def State.withInbox (s : State) (is : List Input) : State := { s with inbox := is }

/-- A free value has been used. -/
def State.tick (s : State) : State := { s with draws := s.draws + 1 }

/-- `ACC`. -/
def State.withAcc (s : State) (a : Crc) : State := { s with acc := a }

/-- `TXB[0..n-1] <- bs`, `TXLEN <- n`; the bytes of `TXB` above hold no value (R24). -/
def State.putTx (s : State) (bs : List Byte) : State :=
  { s with txb := (freeTxBuf s.draws).load bs, txlen := BitVec.ofNat 4 bs.length, draws := s.draws + 1 }

/-- `RXB[0..6] <- bs`, `RXLEN <- 7` (spec/41_codec.md R165). -/
def State.putRx (s : State) (bs : List Byte) : State :=
  { s with rxb := s.rxb.loadFirst bs, rxlen := 7#4 }

/-- `RXB[7] <- bs[0]`, `RXLEN <- 8` (R166 (a)). -/
def State.putRxExtra (s : State) (bs : List Byte) : State :=
  { s with rxb := s.rxb.loadExtra bs, rxlen := 8#4 }

/-- `RXF_VALID`. -/
def State.withFrameValid (s : State) (b : Bool) : State := { s with rxfValid := b }

/-- What a failed `DECODE` leaves: `RXF_VALID = 0`, `RXB` and `RXLEN` hold no value (R26, spec/41_codec.md R174). -/
def State.dropFrame (s : State) : State :=
  { s with rxfValid := false, rxb := freeRxBuf s.draws, rxlen := freeRxlen s.draws, draws := s.draws + 1 }

/-- `PHASE <- p`: the sequencer's control transfer (R14). -/
def State.enter (s : State) (p : Phase) : State := { s with phase := p }

/-- `DISC <- a`, `DISC_VALID <- 1` (R30). -/
def State.discover (s : State) (a : Addr) : State := { s with disc := a, discValid := true }

/-- `RX_FN <- fn` (R34). -/
def State.recordFunction (s : State) (fn : Byte) : State := { s with rxFn := fn }

/-- `RX_ADDR <- a` (R35). -/
def State.recordAddress (s : State) (a : Addr) : State := { s with rxAddr := a }

/-- `CRC_RX <- received`, `CRC_CALC <- computed` (R33). -/
def State.recordChecksums (s : State) (received computed : Crc) : State :=
  { s with crcRx := received, crcCalc := computed }

/-! ### How a run ends (spec/60_exceptions.md R244)

The block has no handler, no vector and no saved counter: taking a cause is latching it and entering `Done`.
There is no return from it (R247): the way on is `HS.START`. -/

/-- The registers the information of a decode error goes to (R230). -/
def State.latch (s : State) : DecodeError → State
  | .shortRead => s
  | .unexpectedFunction fn => s.recordFunction fn
  | .checksumMismatch received computed => s.recordChecksums received computed

/-- `OUTCOME <- o`, `CAUSE <- c`, `PHASE <- Done`. -/
def State.endRun (s : State) (o : OutcomeCode) (c : Cause) : State :=
  { s with outcome := o, cause := c, phase := .done }

/-- The end of a run on a decode error (spec/42_handshake.md R198, R208). -/
def State.failRun (s : State) (o : OutcomeCode) (e : DecodeError) : State :=
  (s.latch e).endRun o e.cause

/-! ### The Checksum Engine (spec/40_checksum.md R140, R146) -/

/-- `CRC16 bs`: it reads nothing, and leaves the accumulator of the last step in `ACC`. -/
def State.checksum (s : State) (bs : List Byte) : State := s.withAcc (crc16 bs)

/-! ### The Transport Port -/

/-- The ways a `MemRead` ends, each with the state it leaves. -/
inductive ReadEnd
  | got (bs : List Byte) (s : State)
  | short (s : State)
  | held (s : State)
deriving DecidableEq, Repr

/-- `MemRead(RX, n)` (spec/20_memory.md R66): all or nothing (R70).
After a `ShortRead` the stream holds an arbitrary suffix of what was there (R71). -/
def State.memRead (s : State) (n : Nat) : ReadEnd :=
  if n ≤ s.rx.length then .got (s.rx.take n) ((s.withRx (s.rx.drop n)).withCall none)
  else
    match s.rxEnd with
    | .closes => .short ((s.withRx (s.rx.drop (Config.rxResidueTaken s.draws))).tick.withCall none)
    | .stalls => .held (s.withCall (some (.read n)))

/-- The ways a `MemWrite` ends, each with the state it leaves. -/
inductive WriteEnd
  | ok (s : State)
  | failed (s : State)
  | held (s : State)
deriving DecidableEq, Repr

/-- `MemWrite(TX, n, v)` (spec/20_memory.md R67).
On a `WriteError` the TX history has grown by an arbitrary proper initial part of `v` (R72).
While there is no answer it has not grown: the model's choice, the spec gives its growth with an answer only (assumption
log 21). -/
def State.memWrite (s : State) (v : List Byte) : WriteEnd :=
  match s.writeAnswers with
  | .ok :: as => .ok (((s.appendTx v).withAnswers as).withCall none)
  | .writeError :: as =>
    .failed (((s.appendTx (v.take (Config.txPartial s.draws % v.length))).withAnswers as).tick.withCall none)
  | [] => .held (s.withCall (some (.write v.length)))

/-! ### Moves of HOST that are no instruction -/

/-- A refusal: the reason is handed to HOST and nothing else happens (spec/60_exceptions.md R235). -/
def State.refuse (s : State) (why : RefuseReason) : State := s.withReply (.refused why)

/-- An operation that cannot begin while a `DECODE` of HOST is held: it is neither refused nor executed, it stands first among HOST's
moves to come (assumption log 9).
The step never gets here, since it takes no operation from the queue then. -/
def State.postpone (s : State) (opsel : BitVec 2) (arg : Operands) : State := s.withInbox (.command opsel arg :: s.inbox)

/-- The result as HOST reads it (spec/42_handshake.md R214); a register that holds no value is `none` (R44). -/
def State.view (s : State) : ResultView where
  phase := s.phase
  busy := s.busy
  done := s.isDone
  target := s.suppliedTarget
  discovered := s.discovered
  outcome := s.outcome
  cause := s.cause
  result := s.result
  frame := if s.rxfValid then some s.frameView else none
  built := s.txBytes

/-- The result read: no side effect (R214). -/
def State.readResult (s : State) : State := s.withReply (.result s.view)

/-- A reset while the block runs (spec/70_reset_and_hazards.md R270): every register as in the middle column of R43, the run and
its transport call abandoned, the environment untouched (R271).
Of a write it abandons no byte is in the TX history: the model's choice (assumption log 21).
An operation of HOST that waits behind a `DECODE` it abandons survives it and begins afterwards: the model's choice (assumption
log 25). -/
def State.resetBlock (s : State) : State :=
  { s with
    acc := Config.freeAcc s.draws
    txb := freeTxBuf s.draws
    txlen := 0#4
    rxb := freeRxBuf s.draws
    rxlen := 0#4
    rxfValid := false
    phase := .idle
    targetValid := false
    target := Config.freeTarget s.draws
    discValid := false
    disc := Config.freeDisc s.draws
    outcome := .none
    cause := .none
    crcRx := Config.freeCrcRx s.draws
    crcCalc := Config.freeCrcCalc s.draws
    rxFn := Config.freeRxFn s.draws
    rxAddr := Config.freeRxAddr s.draws
    inFlight := none
    reply := .nothing
    draws := s.draws + 1 }

/-! ### Where the next instruction stands

The block fetches no program (spec/20_memory.md R85).
What it does next is selected by HOST's command, by a frame that reaches it, or, where the environment makes no move, by
`PHASE` (spec/42_handshake.md R194). -/

/-- Whether a move can happen now: while a `DECODE` of HOST is held the block does nothing else (spec/41_codec.md R173,
spec/20_memory.md R81), and HOST, whose call has not returned, issues no other operation; every other move can (assumption
log 9). -/
def State.admits (s : State) : Input → Bool
  | .command _ _ => !s.hostHeld
  | .wait => true
  | .readResult => true
  | .reset => true
  | .received _ => true
  | .channel _ => true
  | .writeAnswer _ => true

/-- The environment's next move: the first in the queue that can happen now. -/
def State.nextInput (s : State) : Option Input := s.inbox.find? s.admits

/-- The state once that move is taken from the queue; the operations that wait before it stay there, also
where it is a reset (assumption log 25). -/
def State.popInput (s : State) : State := s.withInbox (s.inbox.eraseP s.admits)

/-- The code of the next instruction; `none` where the environment's next move is no instruction. -/
def State.nextCode (s : State) : Option Code :=
  match s.nextInput with
  | none => some (.phase s.phase.code)
  | some .wait => some (.phase s.phase.code)
  | some (.command opsel arg) => some (.op opsel arg)
  | some (.received bytes) => some (.frame .inbound bytes)
  | some .readResult => none
  | some .reset => none
  | some (.channel _) => none
  | some (.writeAnswer _) => none

end Sys2Proof.Machine
end

