-- ==== Sys2Proof/Machine/Checksum.lean ====
section
/-! DEFINITION. The Checksum Engine's operation (spec/40_checksum.md). -/

namespace Sys2Proof.Machine

/-- `CRC16 s` on behalf of HOST (R140): it cannot fail; it is refused while `BUSY`, when the engine is a run's
(spec/42_handshake.md R193), and in no other state.
While a `DECODE` of HOST is held it does not begin (spec/41_codec.md R173). -/
def execCrc16 (bs : List Byte) (s : State) : Host.Outcome State Fault Refusal :=
  if s.busy then .next (s.refuse .busy)
  else if s.hostHeld then .next (s.postpone 0b00#2 { bytes := bs })
  else .next ((s.checksum bs).withReply (.crc (crc16 bs)))

end Sys2Proof.Machine
end

