-- ==== Sys2Proof/Machine/Codec.lean ====
section
/-! DEFINITION. The Packet Codec: `ENCODE` and `DECODE` (spec/41_codec.md). -/

namespace Sys2Proof.Machine

/-! ### ENCODE -/

/-- The four assigned function codes (spec/30_encoding.md R111). -/
def assignedFunction (fn : Byte) : Bool :=
  fn = Config.fnRead || fn = Config.fnWrite || fn = Config.fnControl || fn = Config.fnRequest

/-- `ENCODE`'s precondition (R161, R162). -/
def encodable (fn : Byte) (pl : List Byte) : Bool :=
  decide (pl.length ≤ Config.maxPayload) && assignedFunction fn

/-- The building half of `ENCODE` (R160): the body, its checksum, then the whole frame in `TXB`. -/
def State.build (s : State) (fn : Byte) (addr : Addr) (da : DataAddr) (pl : List Byte) : State :=
  (s.checksum (frameBody Config.startMarker addr fn da pl)).putTx (builtFrame fn addr da pl)

/-- `ENCODE` on behalf of HOST: refused while `BUSY` (spec/42_handshake.md R193, spec/70_reset_and_hazards.md R278); while a `DECODE`
of HOST is held it does not begin (R173). -/
def State.hostEncode (s : State) (fn : Byte) (addr : Addr) (da : DataAddr) (pl : List Byte) : State :=
  if s.busy then s.refuse .busy
  else if s.hostHeld then s.postpone 0b01#2 { bytes := pl, fn := fn, addr := addr, da := da }
  else if encodable fn pl then (s.build fn addr da pl).withReply (.bytes (builtFrame fn addr da pl))
  else s.refuse .encodePrecondition

/-- `ENCODE` (R160 to R163).
`Busy` is looked at first (assumption log 8). -/
def execEncode (fn : Byte) (addr : Addr) (da : DataAddr) (pl : List Byte) (s : State) : Host.Outcome State Fault Refusal :=
  .next (s.hostEncode fn addr da pl)

/-! ### DECODE -/

/-- The ways a `DECODE` ends (spec/00_scope.md R16), each with the state it leaves; `held` has no ending yet. -/
inductive DecodeEnd
  | frame (f : Frame) (s : State)
  | error (e : DecodeError) (s : State)
  | held (s : State)
deriving DecidableEq, Repr

/-- A failed `DECODE` (R174). -/
def State.decodeFailed (s : State) (e : DecodeError) : DecodeEnd := .error e s.dropFrame

/-- Steps 3 and 4 (R168, R169): the checksum over all bytes read but the last two, compared with those two. -/
def State.decodeCompare (s : State) : DecodeEnd :=
  let t := s.checksum s.rxCovered
  if s.rxChecksum = crc16 s.rxCovered then .frame s.frameView (t.withFrameValid true)
  else t.decodeFailed (.checksumMismatch s.rxChecksum (crc16 s.rxCovered))

/-- The extra read of step 2 (a) (R166, R167). -/
def State.decodeExtra (s : State) : DecodeEnd :=
  match s.memRead Config.extraWrite with
  | .got bs t => (t.putRxExtra bs).decodeCompare
  | .short t => t.decodeFailed .shortRead
  | .held t => .held t

/-- Step 2 (R166): the function byte decides how many more bytes there are, by the table `EXTRA`. -/
def State.decodeFunction (s : State) : DecodeEnd :=
  match extra s.rxb.b3 with
  | none => s.decodeFailed (.unexpectedFunction s.rxb.b3)
  | some 0 => s.decodeCompare
  | some (_ + 1) => s.decodeExtra

/-- Step 1 (R165). -/
def State.decodeFirst (s : State) : DecodeEnd :=
  match (s.withFrameValid false).memRead Config.minFrameLen with
  | .got bs t => (t.putRx bs).decodeFunction
  | .short t => t.decodeFailed .shortRead
  | .held t => .held t

/-- `DECODE` (R164), from the beginning or, where it is held at its second read, from there (R173). -/
def State.decodeRun (s : State) : DecodeEnd :=
  if s.inFlight = some (.read Config.extraWrite) then s.decodeExtra else s.decodeFirst

/-- A `DECODE` on behalf of HOST: its frame or its error is handed to HOST and no result register is written (spec/10_state.md
R33); while it is held HOST has nothing. -/
def State.hostDecode (s : State) : State :=
  match s.decodeRun with
  | .frame f t => t.withReply (.frame f)
  | .error e t => t.withReply (.error e)
  | .held t => t

/-- `DECODE` (R164 to R179) issued by HOST: refused while `BUSY`; while another `DECODE` of HOST is held it does not begin
(R173). -/
def execDecode (s : State) : Host.Outcome State Fault Refusal :=
  if s.busy then .next (s.refuse .busy)
  else if s.hostHeld then .next (s.postpone 0b10#2 {})
  else .next (s.withReply .nothing).hostDecode

/-- Outside a run the sequencer takes no step (spec/42_handshake.md R194); a `DECODE` that HOST issued and that is held in its
transport call goes on when TRANSPORT answers (assumption log 9). -/
def State.atRest (s : State) : State :=
  if s.inFlight.isSome then s.hostDecode else s

/-! ### DECODE as a function of the RX stream -/

/-- How a `DECODE` ends on a stream, with the bytes it leaves where the spec says which. -/
inductive StreamEnd
  | frame (f : Frame) (rest : List Byte)
  | error (e : DecodeError) (rest : List Byte)
  | short
  | held
deriving DecidableEq, Repr

/-- The comparison of R168 on one frame's bytes. -/
def compareFrame (start a b fn da : Byte) (pl : List Byte) (c d : Byte) (rest : List Byte) : StreamEnd :=
  let computed := crc16 ([start, a, b, fn, da] ++ pl)
  if le16 c d = computed then .frame ⟨start, le16 a b, fn, da, pl, le16 c d⟩ rest
  else .error (.checksumMismatch (le16 c d) computed) rest

/-- A stream that does not hold the bytes wanted (spec/20_memory.md R66). -/
def runsOut : RxEnd → StreamEnd
  | .closes => .short
  | .stalls => .held

/-- `DECODE` read off the RX stream `(bytes, end)` alone (R164): what the registers do not show. -/
def decodeStream (bytes : List Byte) (e : RxEnd) : StreamEnd :=
  match bytes with
  | start :: a :: b :: fn :: da :: c :: d :: rest =>
    if fn = Config.fnRequest then compareFrame start a b fn da [] c d rest
    else if fn = Config.fnWrite then
      match rest with
      | x :: rest' => compareFrame start a b fn da [c] d x rest'
      | [] => runsOut e
    else .error (.unexpectedFunction fn) rest
  | _ => runsOut e

end Sys2Proof.Machine
end

