-- ==== Sys2Proof/Machine/Handshake.lean ====
section
/-! DEFINITION. The Handshake Engine (spec/42_handshake.md): `HS.START`, the steps of a run, and the run as one function. -/

namespace Sys2Proof.Machine

/-! ### HS.START -/

/-- The session of a new run (R191): every session register is written, or invalidated and then holds no value (spec/10_state.md
R43, third column; R44). -/
def State.openSession (s : State) (target : Option Addr) : State :=
  { s with
    targetValid := target.isSome
    target := target.getD (Config.freeTarget s.draws)
    discValid := false
    disc := Config.freeDisc s.draws
    outcome := .none
    cause := .none
    crcRx := Config.freeCrcRx s.draws
    crcCalc := Config.freeCrcCalc s.draws
    rxFn := Config.freeRxFn s.draws
    rxAddr := Config.freeRxAddr s.draws
    rxfValid := false
    rxb := freeRxBuf s.draws
    rxlen := 0#4
    txb := freeTxBuf s.draws
    txlen := 0#4
    acc := Config.freeAcc s.draws
    phase := .awaitIdent
    reply := .nothing
    draws := s.draws + 1 }

/-- `HS.START target` (R191 to R193): target 0 is not tested.
It is refused while a run is in progress; while a `DECODE` of HOST is held it does not begin (spec/41_codec.md R173). -/
def execHsStart (target : Option Addr) (s : State) : Host.Outcome State Fault Refusal :=
  if s.busy then .next (s.refuse .busy)
  else if s.hostHeld then .next (s.postpone 0b11#2 { target := target })
  else .next (s.openSession target)

/-! ### The steps -/

/-- What `AwaitIdent` makes of a decoded frame (R195, R196); the parameter is `IDENT_REQUIRES_REQUEST`. -/
def State.acceptIdent (s : State) (f : Frame) (requiresRequest : Bool) : State :=
  if requiresRequest && f.function != Config.fnRequest then s.failRun .identFailed (.unexpectedFunction f.function)
  else (s.discover f.deviceAddr).enter .identFound

/-- Step `AwaitIdent` (R195 to R198). -/
def State.stepAwaitIdent (s : State) : State :=
  match s.decodeRun with
  | .frame f t => t.acceptIdent f Config.identRequiresRequest
  | .error e t => t.failRun .identFailed e
  | .held t => t

/-- Step `IdentFound` (R199). -/
def State.stepIdentFound (s : State) : State :=
  if s.targetValid then s.enter .buildingWriteCommand else s.endRun .noChange .none

/-- The second half of `BuildingWriteCommand` (R201, R202): what stands in `TXB[0..TXLEN-1]` goes to TX. -/
def State.sendBuilt (s : State) : State :=
  match s.memWrite s.txBytes with
  | .ok t => t.enter .awaitConfirm
  | .failed t => t.endRun .writeFailed .writeError
  | .held t => t

/-- Both halves for the target `t` (R200, R201): nothing happens between them.
While the write is in flight the command stands built and is not built again. -/
def State.sendCommand (s : State) (t : Addr) : State :=
  if s.inFlight = some (.write Config.commandLength) then s.sendBuilt
  else (s.build Config.fnWrite Config.broadcast Config.writeCmdDataAddr (commandPayload t)).sendBuilt

/-- What `AwaitConfirm` makes of a decoded frame (R205): the function test first (R206), then the address test (R207). -/
def State.judgeConfirm (s : State) (f : Frame) : State :=
  if f.function ≠ Config.fnWrite then (s.recordFunction f.function).endRun .rejectedFunction .confirmFunctionMismatch
  else if f.deviceAddr ≠ s.target then (s.recordAddress f.deviceAddr).endRun .rejectedAddress .addressRejected
  else (s.recordAddress f.deviceAddr).endRun .confirmed .none

/-- Step `AwaitConfirm` (R205 to R209). -/
def State.stepAwaitConfirm (s : State) : State :=
  match s.decodeRun with
  | .frame f t => t.judgeConfirm f
  | .error e t => t.failRun .confirmFailed e
  | .held t => t

/-! ### The meanings -/

/-- `Idle` (R194): at rest. -/
def execIdle (s : State) : Host.Outcome State Fault Refusal := .next s.atRest

/-- `AwaitIdent` (R195). -/
def execAwaitIdent (s : State) : Host.Outcome State Fault Refusal := .next s.stepAwaitIdent

/-- `IdentFound` (R199). -/
def execIdentFound (s : State) : Host.Outcome State Fault Refusal := .next s.stepIdentFound

/-- `BuildingWriteCommand` (R200, R201). -/
def execBuildingWriteCommand (s : State) : Host.Outcome State Fault Refusal := .next (s.sendCommand s.target)

/-- `AwaitConfirm` (R205). -/
def execAwaitConfirm (s : State) : Host.Outcome State Fault Refusal := .next s.stepAwaitConfirm

/-- `Done` (R210): terminal. -/
def execDone (s : State) : Host.Outcome State Fault Refusal := .next s.atRest

/-! ### The run as one function (R211) -/

/-- The evaluation of the confirm frame. -/
def confirmOutcome (t : Addr) (f : Frame) : RunOutcome :=
  if f.function ≠ Config.fnWrite then .rejectedFunction f.function
  else if f.deviceAddr ≠ t then .rejectedAddress f.deviceAddr
  else .confirmed f.deviceAddr

/-- The confirm read of `HS.RUN`. -/
def hsConfirm (d t : Addr) (rx : List Byte) (e : RxEnd) : Option (Option Addr × RunOutcome) :=
  match decodeStream rx e with
  | .frame f _ => some (some d, confirmOutcome t f)
  | .error e' _ => some (some d, .confirmFailed e')
  | .short => some (some d, .confirmFailed .shortRead)
  | .held => none

/-- What follows the IDENT frame in `HS.RUN`: nothing, or the write and the confirm read. -/
def hsWrite (d : Addr) (target : Option Addr) (rx : List Byte) (e : RxEnd) (answers : List WriteAnswer) :
    Option (Option Addr × RunOutcome) :=
  match target, answers with
  | none, _ => some (some d, .noChange)
  | some _, [] => none
  | some _, .writeError :: _ => some (some d, .writeFailed)
  | some t, .ok :: _ => hsConfirm d t rx e

/-- `HS.RUN target` as a function of the RX stream and of TRANSPORT's answers; `none` where a call is never answered. -/
def hsRun (target : Option Addr) (rx : List Byte) (e : RxEnd) (answers : List WriteAnswer) :
    Option (Option Addr × RunOutcome) :=
  match decodeStream rx e with
  | .frame f rest => hsWrite f.deviceAddr target rest e answers
  | .error e' _ => some (none, .identFailed e')
  | .short => some (none, .identFailed .shortRead)
  | .held => none

end Sys2Proof.Machine
end

