-- ==== Sys2Proof/Machine/Frames.lean ====
section
/-! DEFINITION. The frame kinds (spec/30_encoding.md R103 to R106, R112, R114).
An inbound frame's meaning is what the block does when the frame reaches it: its bytes join the RX stream (spec/20_memory.md R83), and
the `DECODE` that waits there, if one does, takes the stream's next bytes.
The outbound frame's meaning is its building and sending (assumption log 7). -/

namespace Sys2Proof.Machine

/-- Bytes reach the block: they stand at the end of the RX stream (spec/20_memory.md R82, R83). -/
def State.deliver (s : State) (bytes : List Byte) : State := s.withRx (s.rx ++ bytes)

/-- The step a reading block takes: the one `PHASE` selects, or the `DECODE` that HOST issued. -/
def State.stepReading (s : State) : State :=
  match s.phase with
  | .awaitIdent => s.stepAwaitIdent
  | .awaitConfirm => s.stepAwaitConfirm
  | .idle => s.atRest
  | .done => s.atRest
  | .identFound => s
  | .buildingWriteCommand => s

/-- Bytes reach the block, and if it is reading it goes on. -/
def State.receive (s : State) (bytes : List Byte) : State :=
  if s.reading then (s.deliver bytes).stepReading else s.deliver bytes

/-- `IDENT` received (R103). -/
def execIdent (start : Byte) (addr : Addr) (da : DataAddr) (c : Crc) (s : State) : Host.Outcome State Fault Refusal :=
  .next (s.receive (frameBytes start addr Config.fnRequest da [] c))

/-- `CONFIRM` received (R104). -/
def execConfirm (start : Byte) (addr : Addr) (da : DataAddr) (p : Byte) (c : Crc) (s : State) : Host.Outcome State Fault Refusal :=
  .next (s.receive (frameBytes start addr Config.fnWrite da [p] c))

/-- `SETADDR` (R105): the command that `BuildingWriteCommand` builds and sends (R200, R201).
In any other phase the block sends nothing (spec/20_memory.md R61): the form is HOST's `ENCODE` of that frame (R123, R193).
With another target than `TARGET`, which no step gives it, the operand's command is sent, or the one in `TXB` where a write is in
flight: the model's choice, the spec builds the command from `TARGET` only (assumption log 24).
The checksum is the Checksum Engine's (R108), which is the operand `c` of every well-formed term. -/
def execSetAddr (target : Addr) (_c : Crc) (s : State) : Host.Outcome State Fault Refusal :=
  if s.phase = .buildingWriteCommand then .next (s.sendCommand target)
  else .next (s.hostEncode Config.fnWrite Config.broadcast Config.writeCmdDataAddr (commandPayload target))

/-- `FRAME.READ` received (R114): recognised, not admitted. -/
def execFrameRead (start : Byte) (addr : Addr) (da : DataAddr) (pl : List Byte) (c : Crc) (s : State) :
    Host.Outcome State Fault Refusal :=
  .next (s.receive (frameBytes start addr Config.fnRead da pl c))

/-- `FRAME.CONTROL` received (R114): recognised, not admitted. -/
def execFrameControl (start : Byte) (addr : Addr) (da : DataAddr) (pl : List Byte) (c : Crc) (s : State) :
    Host.Outcome State Fault Refusal :=
  .next (s.receive (frameBytes start addr Config.fnControl da pl c))

end Sys2Proof.Machine
end

