-- ==== Sys2Proof/Machine/Dispatch.lean ====
section
/-! DEFINITION. One arm per instruction. -/

namespace Sys2Proof.Machine

def exec (i : Instr) (s : State) : Host.Outcome State Fault Refusal :=
  match i with
  -- the operations
  | .crc16 bs => Sys2Proof.Machine.execCrc16 bs s
  | .encode fn addr da pl => Sys2Proof.Machine.execEncode fn addr da pl s
  | .decode => Sys2Proof.Machine.execDecode s
  | .hsStart target => Sys2Proof.Machine.execHsStart target s
  -- the steps of the sequencer
  | .idle => Sys2Proof.Machine.execIdle s
  | .awaitIdent => Sys2Proof.Machine.execAwaitIdent s
  | .identFound => Sys2Proof.Machine.execIdentFound s
  | .buildingWriteCommand => Sys2Proof.Machine.execBuildingWriteCommand s
  | .awaitConfirm => Sys2Proof.Machine.execAwaitConfirm s
  | .done => Sys2Proof.Machine.execDone s
  -- the frame kinds
  | .ident start addr da c => Sys2Proof.Machine.execIdent start addr da c s
  | .confirm start addr da p c => Sys2Proof.Machine.execConfirm start addr da p c s
  | .setAddr target c => Sys2Proof.Machine.execSetAddr target c s
  | .frameRead start addr da pl c => Sys2Proof.Machine.execFrameRead start addr da pl c s
  | .frameControl start addr da pl c => Sys2Proof.Machine.execFrameControl start addr da pl c s

end Sys2Proof.Machine
end

