-- ==== Sys2Proof/Machine/Inputs.lean ====
section
/-! DEFINITION. The moves of the environment that select no instruction (spec/70_reset_and_hazards.md R278, spec/20_memory.md R66, R67),
and how a table word is put where the next step finds it. -/

namespace Sys2Proof.Machine

/-- One move.
A command and a wait select an instruction and are not taken here. -/
def State.takeInput (s : State) : Input → State
  | .readResult => s.readResult
  | .reset => s.resetBlock
  | .received bytes => s.receive bytes
  | .channel e => s.withRxEnd e
  | .writeAnswer a => s.withAnswers (s.writeAnswers ++ [a])
  | .command _ _ => s
  | .wait => s

/-- The step when no instruction stands next: the move is taken; bytes that are no frame of the table are received all the
same. -/
def State.stepInput (s : State) : State :=
  match s.nextInput with
  | some input => s.popInput.takeInput input
  | none => s

/-- `s` with the instruction of a code next (assumption log 12).
An operation is HOST's next command and a received frame the environment's next move.
A phase is put into `PHASE`, and HOST waits.
The outbound command is what `BuildingWriteCommand` sends for its target. -/
def State.placeCode (s : State) : Code → State
  | .op opsel arg => { s with inbox := .command opsel arg :: s.inbox }
  | .phase code =>
    match Phase.ofCode code with
    | some p => { s with phase := p, inbox := .wait :: s.inbox }
    | none => s
  | .frame .inbound bytes => { s with inbox := .received bytes :: s.inbox }
  | .frame .outbound bytes =>
    { s with
      phase := .buildingWriteCommand
      inFlight := none
      targetValid := true
      target := le16 (bytes.getD 6 0#8) (bytes.getD 7 0#8)
      inbox := .wait :: s.inbox }

end Sys2Proof.Machine
end

