-- ==== Sys2Proof/Machine/Step.lean ====
section
/-! DEFINITION. One step of the machine: the first move of the environment that can happen, or, where there is none, the block's own step
(spec/00_scope.md R15, spec/42_handshake.md R194). -/

namespace Sys2Proof.Machine

/-- One step: the next instruction where one stands, else the environment's move. -/
def step (s : State) : Host.Outcome State Fault Refusal :=
  match s.nextCode.bind fun c => (decode c).instr with
  | some i => exec i s.popInput
  | none => .next s.stepInput

/-- `s` with the instruction of a table word next; a word that is no code changes nothing. -/
def State.withFetchWord (s : State) (nbits w : Nat) : State :=
  match tableCode nbits w with
  | some c => s.placeCode c
  | none => s

end Sys2Proof.Machine
end

