-- ==== Sys2Proof/Safety.lean ====
section
/-! DEFINITION. What claims about the machine are stated in: the legal states, the premises of a run
(spec/70_reset_and_hazards.md R279), and the arrows of `PHASE` (spec/42_handshake.md R219). -/

namespace Sys2Proof.Machine

/-! ### Legal states -/

/-- `CAUSE` is a function of the outcome (spec/10_state.md R32): which causes go with which `OUTCOME`. -/
def causeFits : OutcomeCode → Cause → Bool
  | .none, c => decide (c = .none)
  | .noChange, c => decide (c = .none)
  | .confirmed, c => decide (c = .none)
  | .rejectedAddress, c => decide (c = .addressRejected)
  | .rejectedFunction, c => decide (c = .confirmFunctionMismatch)
  | .writeFailed, c => decide (c = .writeError)
  | .identFailed, c => decide (c = .shortRead) || decide (c = .unexpectedFunction) || decide (c = .checksumMismatch)
  | .confirmFailed, c => decide (c = .shortRead) || decide (c = .unexpectedFunction) || decide (c = .checksumMismatch)

/-- The call in flight is one the block makes, from where the block makes it (spec/20_memory.md R68, spec/10_state.md R41). -/
def State.callFits (s : State) : Prop :=
  match s.inFlight with
  | none => True
  | some (.read n) =>
    s.rxfValid = false ∧ s.phase ≠ .identFound ∧ s.phase ≠ .buildingWriteCommand ∧
      (n = Config.minFrameLen ∨ (n = Config.extraWrite ∧ s.rxlen = 7#4 ∧ s.rxb.b3 = Config.fnWrite))
  | some (.write n) =>
    n = Config.commandLength ∧ s.phase = .buildingWriteCommand ∧ s.txBytes = commandBytes s.target

/-- What every state the block reaches satisfies. -/
structure Legal (s : State) : Prop where
  /-- The values of `TXLEN` (R24). -/
  txlen : s.txlen = 0#4 ∨ (7 ≤ s.txlen.toNat ∧ s.txlen.toNat ≤ 11)
  /-- The values of `RXLEN` (R25). -/
  rxlen : s.rxlen = 0#4 ∨ s.rxlen = 7#4 ∨ s.rxlen = 8#4
  /-- A valid frame is of one of the two admitted kinds (spec/30_encoding.md R118). -/
  frameKind : s.rxfValid = true →
    (s.rxlen = 7#4 ∧ s.rxb.b3 = Config.fnRequest) ∨ (s.rxlen = 8#4 ∧ s.rxb.b3 = Config.fnWrite)
  /-- Its checksum is right (spec/41_codec.md R168). -/
  frameChecksum : s.rxfValid = true → s.rxChecksum = crc16 s.rxCovered
  /-- `OUTCOME` is `None` while no run has ended (R31). -/
  outcome : s.outcome = .none ↔ s.phase ≠ .done
  /-- `CAUSE` follows `OUTCOME` (R32). -/
  cause : causeFits s.outcome s.cause = true
  /-- No address is discovered before `AwaitIdent` has succeeded (R30). -/
  undiscovered : s.phase = .idle ∨ s.phase = .awaitIdent → s.discValid = false
  /-- Afterwards one is (R30). -/
  discovered : s.phase = .identFound ∨ s.phase = .buildingWriteCommand ∨ s.phase = .awaitConfirm → s.discValid = true
  /-- On `Done` none is exactly when the outcome is `IdentFailed` (R30). -/
  discoveredAtDone : s.phase = .done → (s.discValid = false ↔ s.outcome = .identFailed)
  /-- The command is built and confirmed only for a target (spec/42_handshake.md R199). -/
  targeted : s.phase = .buildingWriteCommand ∨ s.phase = .awaitConfirm → s.targetValid = true
  /-- In `AwaitConfirm` the command that was sent stands in `TXB` (R201). -/
  commandSent : s.phase = .awaitConfirm → s.txBytes = commandBytes s.target
  /-- `Confirmed` carries the target (R209). -/
  confirmed : s.outcome = .confirmed → s.rxAddr = s.target
  /-- `RejectedAddress` carries another address (R207). -/
  rejectedAddress : s.outcome = .rejectedAddress → s.rxAddr ≠ s.target
  /-- `RejectedFunction` carries 4 (R217). -/
  rejectedFunction : s.outcome = .rejectedFunction → s.rxFn = Config.fnRequest
  /-- `NoChange` is the outcome of a run without a target (R199). -/
  noChange : s.outcome = .noChange → s.targetValid = false
  /-- The two checksums a `ChecksumMismatch` carries differ (R33). -/
  mismatch : s.cause = .checksumMismatch → s.crcRx ≠ s.crcCalc
  /-- The function an `UnexpectedFunction` carries is not admitted (R34). -/
  unexpected : s.cause = .unexpectedFunction → extra s.rxFn = none
  /-- The call in flight (R41). -/
  call : s.callFits

/-! ### Premises (R279) -/

/-- `NotBusy`: `PHASE` is `Idle` or `Done`. -/
def NotBusy (s : State) : Prop := s.busy = false

/-- `NotBusy` and no `DECODE` of HOST held: the block can begin an operation of HOST. -/
def Free (s : State) : Prop := NotBusy s ∧ s.inFlight = none

/-- `TargetLegal` (R276). -/
def TargetLegal (target : Option Word) : Prop := target ≠ some Config.broadcast

/-- The bytes of DEVICE that a move of the environment brings. -/
def Input.bytes : Input → List Byte
  | .received bytes => bytes
  | .command _ _ => []
  | .wait => []
  | .readResult => []
  | .reset => []
  | .channel _ => []
  | .writeAnswer _ => []

/-- The bytes that have not reached TRANSPORT yet, first on the wire first. -/
def State.arriving (s : State) : List Byte := s.inbox.flatMap Input.bytes

/-- `Answers`: TRANSPORT answers every call of the run for `target` that begins in `s`: whatever call is in flight after some
steps of that run is not in flight after some more.
Bytes, ends of the channel and answers to the write all count, those that are there and those that the moves to come bring, each
when it comes. -/
def Answers (s : State) (target : Option Word) : Prop :=
  ∀ (k : Nat) (t : State) (c : Call), Sys2Proof.core.run k (s.openSession target) = .next t → t.inFlight = some c →
    ∃ (m : Nat) (u : State), Sys2Proof.core.run (k + m) (s.openSession target) = .next u ∧ u.inFlight ≠ some c

/-- HOST waits for the run to be over (spec/70_reset_and_hazards.md R277 (4)): it issues no operation and no reset, so that nothing
but an answer of TRANSPORT ends a call. -/
def HostWaits (s : State) : Prop := ∀ i ∈ s.inbox, i ≠ .reset ∧ ∀ opsel arg, i ≠ .command opsel arg

/-- The bytes begin with a frame (spec/30_encoding.md R106) as its sender sent it, or are the beginning of one that was cut. -/
def StartsWithFrame (bytes frame : List Byte) : Prop := bytes <+: frame ∨ frame <+: bytes

/-- `RxClean` (R274): the RX stream holds no byte received earlier, and the first byte that will arrive is the first byte of a
frame.
The block cannot test it, and its rules are total without it (assumption log 23). -/
structure RxClean (s : State) : Prop where
  noneEarlier : s.rx = []
  atBoundary : ∃ fn addr da pl, encodable fn pl = true ∧ StartsWithFrame s.arriving (builtFrame fn addr da pl)

/-- What stands around the block that no field of State shows, because nothing the block does depends on it
(R273, R275, R283; assumption log 23). -/
structure Installation where
  /-- HOST has acquired and configured the Transport Port. -/
  portOpen : Bool
  /-- The channel passes all 256 byte values unchanged in both directions. -/
  passesEveryByte : Bool
  /-- The line, where the port is a serial one. -/
  line : Option Config.Line
  /-- How many devices are on the bus. -/
  devices : Nat
deriving DecidableEq, Repr

/-- `PortReady` (R273). -/
def PortReady (w : Installation) : Prop :=
  w.portOpen = true ∧ w.passesEveryByte = true ∧ ∀ l, w.line = some l → l = Config.serialLine

/-- `OneDevice` (R275, R283). -/
def OneDevice (w : Installation) : Prop := w.devices = 1

/-! ### A held DECODE -/

/-- Held at its second read, a `DECODE` has the first 7 bytes of a WRITE frame in `RXB` (spec/41_codec.md R173, spec/10_state.md
R41 (c)); every legal state is so. -/
def StageFits (s : State) : Prop :=
  s.inFlight = some (.read Config.extraWrite) → s.rxlen = 7#4 ∧ s.rxb.b3 = Config.fnWrite ∧ s.rxfValid = false

/-- The bytes that the `DECODE` at work is about (spec/41_codec.md R173): while it is held at its second read, the 7 bytes in `RXB`
and then what is left of the RX stream. -/
def State.decodeBytes (s : State) : List Byte :=
  if s.inFlight = some (.read Config.extraWrite) then s.rxBytes ++ s.rx else s.rx

/-! ### How a run ends on a decode error (spec/42_handshake.md R198, R208) -/

/-- From `s` to `t` a run has ended with outcome `o` on the decode error `e`: the cause and the diagnostics are latched, and
nothing is written but the result registers, what `DECODE` writes, and `PHASE`. -/
def EndsOn (s t : State) (o : OutcomeCode) (e : DecodeError) : Prop :=
  t.outcome = o ∧ t.phase = .done ∧ t.rxfValid = false ∧ t.inFlight = none ∧
  (match e with
    | .shortRead => t.cause = .shortRead ∧ t.rxFn = s.rxFn ∧ t.crcRx = s.crcRx ∧ t.crcCalc = s.crcCalc
    | .unexpectedFunction fn =>
      t.cause = .unexpectedFunction ∧ t.rxFn = fn ∧ t.crcRx = s.crcRx ∧ t.crcCalc = s.crcCalc
    | .checksumMismatch r c => t.cause = .checksumMismatch ∧ t.rxFn = s.rxFn ∧ t.crcRx = r ∧ t.crcCalc = c) ∧
  t = { s with
    outcome := t.outcome, cause := t.cause, phase := t.phase, rxFn := t.rxFn, crcRx := t.crcRx, crcCalc := t.crcCalc,
    rx := t.rx, rxb := t.rxb, rxlen := t.rxlen, rxfValid := t.rxfValid, acc := t.acc, inFlight := t.inFlight,
    draws := t.draws }

/-- From `s` to `t` a `DECODE` has returned `f` and left `rest` in the stream, and nothing is written but what `DECODE` writes
(spec/41_codec.md R164, R169): the frame stands in `RXB`. -/
def Returns (s t : State) (f : Frame) (rest : List Byte) : Prop :=
  t.frameView = f ∧
  t = { s with
    rx := rest, rxb := t.rxb, rxlen := t.rxlen, rxfValid := true, acc := t.acc, inFlight := none }

/-- From `s` to `t` the block is held in a `DECODE` (spec/20_memory.md R66, spec/10_state.md R41): nothing has been read and 7 bytes
are wanted, or 7 bytes, all that there are, stand in `RXB`, the function among them is WRITE, and one more is wanted. -/
def HeldReading (s t : State) : Prop :=
  t = { s with
    rx := t.rx, rxb := t.rxb, rxlen := t.rxlen, rxfValid := false, inFlight := t.inFlight } ∧
  ((t.inFlight = some (.read 7) ∧ t.rx = s.rx ∧ s.rx.length < 7 ∧ t.rxb = s.rxb ∧ t.rxlen = s.rxlen) ∨
   (t.inFlight = some (.read 1) ∧ t.rx = [] ∧ t.rxBytes = s.decodeBytes ∧ t.rxlen = 7#4 ∧ t.rxb.b3 = Config.fnWrite))

/-! ### The arrows of PHASE (R219) -/

/-- From, to, for one step of the sequencer that leaves its phase. -/
def phaseArrow : Phase → Phase → Bool
  | .awaitIdent, .identFound => true
  | .awaitIdent, .done => true
  | .identFound, .done => true
  | .identFound, .buildingWriteCommand => true
  | .buildingWriteCommand, .awaitConfirm => true
  | .buildingWriteCommand, .done => true
  | .awaitConfirm, .done => true
  | _, _ => false

/-- HOST's next move is `HS.START`. -/
def State.startNext (s : State) : Prop := ∃ arg, s.nextInput = some (.command 0b11#2 arg)

/-- HOST's next move is a reset. -/
def State.resetNext (s : State) : Prop := s.nextInput = some .reset

end Sys2Proof.Machine
end

