-- ==== Sys2Proof/Certificates/Slice0/Obligations.lean ====
section
/-! DEFINITION. The statements about the model, for the provers.
A free value stands in a statement only behind "there is": none rests on its value. -/

open Sys2Proof Sys2Proof.Machine

/-! ### Encoding -/

/-- Words written out from spec/30_encoding.md R103 to R106, R121 and spec/10_state.md R27 decode to the instructions they
stand for.
The frames are those of the vectors V15, V24, V19, V25, V29.
That operands reach `decode` beside the 2-bit `OPSEL` is the model's choice (assumption log 6); the codes of `OPSEL` and of `PHASE`
are the spec's own choice (R121, "this spec's choice"; R27; assumption log 18). -/
def Obligations.WrittenWordsDecode : Prop :=
  decode (.op 0b00#2 { bytes := [0x55#8] }) = .ok (.crc16 [0x55#8]) ∧
  decode (.op 0b01#2 { fn := 4#8, addr := 0x1234#16 }) = .ok (.encode 4#8 0x1234#16 0#8 []) ∧
  decode (.op 0b10#2 {}) = .ok .decode ∧
  decode (.op 0b11#2 { target := some 0x2000#16 }) = .ok (.hsStart (some 0x2000#16)) ∧
  decode (.phase 0b001#3) = .ok .awaitIdent ∧
  decode (.phase 0b011#3) = .ok .buildingWriteCommand ∧
  decode (.frame .inbound [0x55#8, 0x34#8, 0x12#8, 0x04#8, 0x00#8, 0x84#8, 0xF9#8]) =
    .ok (.ident 0x55#8 0x1234#16 0x00#8 0xF984#16) ∧
  decode (.frame .inbound [0x55#8, 0x00#8, 0x20#8, 0x02#8, 0x00#8, 0x02#8, 0x27#8, 0xDF#8]) =
    .ok (.confirm 0x55#8 0x2000#16 0x00#8 0x02#8 0xDF27#16) ∧
  decode (.frame .outbound
      [0x55#8, 0x00#8, 0x00#8, 0x02#8, 0x00#8, 0x02#8, 0x00#8, 0x20#8, 0x5C#8, 0xD0#8]) =
    .ok (.setAddr 0x2000#16 0xD05C#16) ∧
  decode (.frame .inbound [0x55#8, 0xAB#8, 0x00#8, 0x01#8, 0x10#8, 0x01#8, 0xB4#8, 0x06#8]) =
    .ok (.frameRead 0x55#8 0x00AB#16 0x10#8 [0x01#8] 0x06B4#16) ∧
  decode (.frame .inbound [0x55#8, 0x34#8, 0x12#8, 0x03#8, 0x00#8, 0x86#8, 0xC9#8]) =
    .ok (.frameControl 0x55#8 0x1234#16 0x00#8 [] 0xC986#16)

/-- Decoding an encoded well-formed instruction gives it back, every operand with it.
That operands reach `decode` beside the 2-bit `OPSEL` is the model's choice (assumption log 6). -/
def Obligations.DecodeEncodeRoundTrip : Prop :=
  ∀ i : Instr, i.wellFormed = true → decode (encode i) = .ok i

/-- A frame's bytes have one meaning: what they decode to encodes to the same bytes. -/
def Obligations.FrameWordsHaveOneMeaning : Prop :=
  ∀ (dir : Direction) (bytes : List Byte) (i : Instr),
    decode (.frame dir bytes) = .ok i → encode i = .frame dir bytes

/-- R27, R194: the six values of `PHASE` and their codes, the step each code selects, and that 6 and 7 select none.
The numbers are the spec's own choice (R27; assumption log 18). -/
def Obligations.PhaseCodesSelectTheirSteps : Prop :=
  (Phase.idle.code = 0#3 ∧ Phase.awaitIdent.code = 1#3 ∧ Phase.identFound.code = 2#3 ∧
    Phase.buildingWriteCommand.code = 3#3 ∧ Phase.awaitConfirm.code = 4#3 ∧ Phase.done.code = 5#3) ∧
  (∀ p : Phase, Phase.ofCode p.code = some p) ∧
  (decode (.phase Phase.idle.code) = .ok .idle ∧ decode (.phase Phase.awaitIdent.code) = .ok .awaitIdent ∧
    decode (.phase Phase.identFound.code) = .ok .identFound ∧
    decode (.phase Phase.buildingWriteCommand.code) = .ok .buildingWriteCommand ∧
    decode (.phase Phase.awaitConfirm.code) = .ok .awaitConfirm ∧ decode (.phase Phase.done.code) = .ok .done) ∧
  (∀ i, decode (.phase 6#3) ≠ .ok i) ∧ (∀ i, decode (.phase 7#3) ≠ .ok i)

/-- R102, R113: an inbound frame's kind is chosen by its function byte alone, and a frame with one of the 252 unassigned codes
is of no kind. -/
def Obligations.FunctionByteSelectsInboundKind : Prop :=
  ∀ (b0 b1 b2 fn b4 : Byte) (tail : List Byte), 2 ≤ tail.length →
    (∀ i, decode (.frame .inbound (b0 :: b1 :: b2 :: fn :: b4 :: tail)) = .ok i →
      (fn = 4#8 ∧ ∃ c, i = .ident b0 (le16 b1 b2) b4 c) ∨
      (fn = 2#8 ∧ ∃ p c, i = .confirm b0 (le16 b1 b2) b4 p c) ∨
      (fn = 1#8 ∧ ∃ pl c, i = .frameRead b0 (le16 b1 b2) b4 pl c) ∨
      (fn = 3#8 ∧ ∃ pl c, i = .frameControl b0 (le16 b1 b2) b4 pl c)) ∧
    (fn ≠ 1#8 → fn ≠ 2#8 → fn ≠ 3#8 → fn ≠ 4#8 →
      decode (.frame .inbound (b0 :: b1 :: b2 :: fn :: b4 :: tail)) = .rejected (.unassignedFunction fn))

/-! ### The Checksum Engine -/

/-- R141: each bit of the accumulator after one `CRC.BIT`, and the corner cases the rule gives. -/
def Obligations.CrcBitShiftsThenXors : Prop :=
  (∀ (a : Word) (k : Nat), k < 16 →
    (crcBit a).getLsbD k = (a.getLsbD (k + 1) ^^ (a.getLsbD 0 && (0xA001#16).getLsbD k))) ∧
  crcBit 0x0000#16 = 0x0000#16 ∧ crcBit 0x0001#16 = 0xA001#16 ∧ crcBit 0xFFFF#16 = 0xDFFE#16 ∧
  crcBit 0x8000#16 = 0x4000#16 ∧ crcBit 0xFFAA#16 = 0x7FD5#16

/-- R142: `CRC.BYTE` XORs the zero-extended byte into the accumulator and then does eight `CRC.BIT`s; with the rule's corner cases
and its worked example. -/
def Obligations.CrcByteIsEightShifts : Prop :=
  (∀ (a : Word) (x : Byte), crcByte a x =
    crcBit (crcBit (crcBit (crcBit (crcBit (crcBit (crcBit (crcBit (a ^^^ x.setWidth 16))))))))) ∧
  (∀ (a : Word) (x : Byte) (k : Nat), k < 16 →
    (a ^^^ x.setWidth 16).getLsbD k = if k < 8 then a.getLsbD k ^^ x.getLsbD k else a.getLsbD k) ∧
  crcByte 0xFFFF#16 0xFF#8 = 0x00FF#16 ∧ crcByte 0xFFFF#16 0x00#8 = 0x40BF#16 ∧ crcByte 0xFFFF#16 0x55#8 = 0x7F7F#16

/-- R148: the accumulator after `s` is all that the bytes of `t` need. -/
def Obligations.CrcContinues : Prop :=
  ∀ s t : List Byte, crc16 (s ++ t) = t.foldl crcByte (crc16 s)

/-- R149: appending a string's checksum, low byte first, makes the checksum zero, and nothing else of two bytes does: a frame's
checksum matches exactly when the checksum over the whole frame is zero. -/
def Obligations.CrcResidueIsZero : Prop :=
  (∀ s : List Byte, crc16 (s ++ [loByte (crc16 s), hiByte (crc16 s)]) = 0x0000#16) ∧
  (∀ (s : List Byte) (x y : Byte), le16 x y = crc16 s ↔ crc16 (s ++ [x, y]) = 0x0000#16)

/-- R147 (d): the checksum of a byte string of any length changes whenever one bit of it does. -/
def Obligations.CrcDetectsEverySingleBit : Prop :=
  ∀ (s t : List Byte) (x : Byte) (b : Nat), b < 8 →
    crc16 (s ++ [x ^^^ (1#8 <<< b)] ++ t) ≠ crc16 (s ++ [x] ++ t)

/-- R140, R146: `CRC16` on behalf of HOST returns the checksum and writes `ACC` only.
That it does not begin while a `DECODE` of HOST is held is the model's choice (assumption log 9), stated in
`HeldDecodeKeepsOperationsWaiting`. -/
def Obligations.Crc16ReturnsTheChecksum : Prop :=
  ∀ (s : State) (bs : List Byte), Free s →
    ∃ a, exec (.crc16 bs) s = .next { s with acc := a, reply := .crc (bs.foldl crcByte 0xFFFF#16) }

/-- R147 (b): the result depends on the bytes alone, not on `ACC`, a register or the phase.
That `CRC16` does not begin while a `DECODE` of HOST is held is the model's choice (assumption log 9). -/
def Obligations.Crc16DependsOnTheBytesAlone : Prop :=
  ∀ (s s' : State) (bs : List Byte), Free s → Free s' →
    ∃ t t', exec (.crc16 bs) s = .next t ∧ exec (.crc16 bs) s' = .next t' ∧ t.reply = t'.reply

/-! ### ENCODE -/

/-- R160: the bytes built, where they stand, what HOST gets, and that nothing else is written.
That it does not begin while a `DECODE` of HOST is held is the model's choice (assumption log 9), stated in
`HeldDecodeKeepsOperationsWaiting`. -/
def Obligations.EncodeBuildsTheFrame : Prop :=
  ∀ (s : State) (fn : Byte) (addr : Word) (da : Byte) (pl : List Byte),
    Free s → pl.length ≤ 4 → (fn = 1#8 ∨ fn = 2#8 ∨ fn = 3#8 ∨ fn = 4#8) →
    ∃ t, exec (.encode fn addr da pl) s = .next t ∧
      (let body := [0x55#8, loByte addr, hiByte addr, fn, da] ++ pl
       t.txBytes = body ++ [loByte (crc16 body), hiByte (crc16 body)]) ∧
      t.txlen.toNat = 7 + pl.length ∧ t.reply = .bytes t.txBytes ∧
      t = { s with acc := t.acc, txb := t.txb, txlen := t.txlen, reply := t.reply, draws := t.draws }

/-- R162: an over-long payload or an unassigned function is refused, and nothing is changed: HOST gets the reason.
The function test and the one reason for both tests are the spec's own choice (R162, decision D13; assumption log 18).
That it does not begin while a `DECODE` of HOST is held is the model's choice (assumption log 9). -/
def Obligations.EncodeRefusesBadOperands : Prop :=
  ∀ (s : State) (fn : Byte) (addr : Word) (da : Byte) (pl : List Byte),
    Free s → (4 < pl.length ∨ (fn ≠ 1#8 ∧ fn ≠ 2#8 ∧ fn ≠ 3#8 ∧ fn ≠ 4#8)) →
    exec (.encode fn addr da pl) s = .next { s with reply := .refused .encodePrecondition }

/-! ### DECODE -/

/-- R164: `DECODE` on behalf of HOST, on every RX stream, ends as the stream says, writes `RXB`, `RXLEN`, `RXF_VALID`, `ACC` and
the stream, and hands HOST its value or its error. -/
def Obligations.DecodeFollowsTheStream : Prop :=
  ∀ s : State, Free s →
    match decodeStream s.rx s.rxEnd with
    | .frame f rest =>
      ∃ t, exec .decode s = .next { t with reply := .frame f } ∧ Returns s t f rest
    | .error e rest =>
      ∃ b l a n, exec .decode s = .next
        { s with rx := rest, rxb := b, rxlen := l, rxfValid := false, acc := a, draws := n, reply := .error e }
    | .short =>
      ∃ b l rest n, rest <:+ s.rx ∧ exec .decode s = .next
        { s with rx := rest, rxb := b, rxlen := l, rxfValid := false, draws := n, reply := .error .shortRead }
    | .held =>
      ∃ t, exec .decode s = .next { t with reply := .nothing } ∧ HeldReading s t

/-- R170, R175: a REQUEST frame of 7 bytes or a WRITE frame of 8, with a right checksum and ANY start byte, is returned with every
field as sent, and the bytes after it stay.
That any start byte is accepted is the spec's own decision (R170, D10; assumption log 18). -/
def Obligations.DecodeRecoversAdmittedFrames : Prop :=
  ∀ (s : State) (start : Byte) (addr : Word) (da p : Byte) (tail : List Byte), Free s →
    (let c := crc16 [start, loByte addr, hiByte addr, 4#8, da]
     s.rx = [start, loByte addr, hiByte addr, 4#8, da, loByte c, hiByte c] ++ tail →
     ∃ t, exec .decode s = .next t ∧ t.reply = .frame ⟨start, addr, 4#8, da, [], c⟩ ∧ t.rx = tail ∧ t.rxfValid = true) ∧
    (let c := crc16 [start, loByte addr, hiByte addr, 2#8, da, p]
     s.rx = [start, loByte addr, hiByte addr, 2#8, da, p, loByte c, hiByte c] ++ tail →
     ∃ t, exec .decode s = .next t ∧ t.reply = .frame ⟨start, addr, 2#8, da, [p], c⟩ ∧ t.rx = tail ∧ t.rxfValid = true)

/-- R166 (c), R174: any other function than WRITE and REQUEST is refused after 7 bytes, whatever the checksum.
That the error carries the byte is the spec's own choice (R34, D17; assumption log 18). -/
def Obligations.DecodeRejectsOtherFunctions : Prop :=
  ∀ (s : State) (b0 b1 b2 fn b4 b5 b6 : Byte) (rest : List Byte), Free s → fn ≠ 2#8 → fn ≠ 4#8 →
    s.rx = [b0, b1, b2, fn, b4, b5, b6] ++ rest →
    ∃ b l a n, exec .decode s = .next
      { s with rx := rest, rxb := b, rxlen := l, rxfValid := false, acc := a, draws := n,
               reply := .error (.unexpectedFunction fn) }

/-- R168: the checksum over all bytes read but the last two is compared with those two; a mismatch carries both. -/
def Obligations.DecodeComparesTheChecksum : Prop :=
  ∀ (s : State) (b0 b1 b2 b4 b5 b6 b7 : Byte) (rest : List Byte), Free s →
    (s.rx = [b0, b1, b2, 4#8, b4, b5, b6] ++ rest → le16 b5 b6 ≠ crc16 [b0, b1, b2, 4#8, b4] →
      ∃ b l a n, exec .decode s = .next
        { s with rx := rest, rxb := b, rxlen := l, rxfValid := false, acc := a, draws := n,
                 reply := .error (.checksumMismatch (le16 b5 b6) (crc16 [b0, b1, b2, 4#8, b4])) }) ∧
    (s.rx = [b0, b1, b2, 2#8, b4, b5, b6, b7] ++ rest → le16 b6 b7 ≠ crc16 [b0, b1, b2, 2#8, b4, b5] →
      ∃ b l a n, exec .decode s = .next
        { s with rx := rest, rxb := b, rxlen := l, rxfValid := false, acc := a, draws := n,
                 reply := .error (.checksumMismatch (le16 b6 b7) (crc16 [b0, b1, b2, 2#8, b4, b5])) })

/-- R165, R167, R71: too few bytes on a channel that closes, at the first read or at the extra read, is `ShortRead`; what is left of
the stream is some suffix of it. -/
def Obligations.DecodeShortRead : Prop :=
  ∀ s : State, Free s → s.rxEnd = .closes →
    (s.rx.length < 7 ∨ (s.rx.length = 7 ∧ s.rx[3]? = some 2#8)) →
    ∃ b l rest n, rest <:+ s.rx ∧ exec .decode s = .next
      { s with rx := rest, rxb := b, rxlen := l, rxfValid := false, draws := n, reply := .error .shortRead }

/-- R66, R280: too few bytes on a channel that stalls holds the block, and HOST has nothing. -/
def Obligations.DecodeIsHeldByAStall : Prop :=
  ∀ s : State, Free s → s.rxEnd = .stalls →
    (s.rx.length < 7 ∨ (s.rx.length = 7 ∧ s.rx[3]? = some 2#8)) →
    ∃ t, exec .decode s = .next { t with reply := .nothing } ∧ HeldReading s t

/-- R176: whichever one bit of an admitted frame is flipped, the frame does not decode: in the function byte it is an
`UnexpectedFunction` after 7 bytes, anywhere else a `ChecksumMismatch` after the whole frame.
That the error carries the flipped byte is the spec's own choice (R34, R166, D17; assumption log 18). -/
def Obligations.NoSingleBitFlipDecodes : Prop :=
  ∀ (addr : Word) (da : Byte) (pl bytes tail : List Byte) (e : RxEnd) (k b : Nat),
    (bytes = builtFrame 4#8 addr da [] ∨ (pl.length = 1 ∧ bytes = builtFrame 2#8 addr da pl)) →
    k < bytes.length → b < 8 →
    let flipped := bytes.set k ((bytes.getD k 0#8) ^^^ (1#8 <<< b))
    (k = 3 → decodeStream (flipped ++ tail) e =
      .error (.unexpectedFunction ((bytes.getD 3 0#8) ^^^ (1#8 <<< b))) (flipped.drop 7 ++ tail)) ∧
    (k ≠ 3 → ∃ r c, r ≠ c ∧ decodeStream (flipped ++ tail) e = .error (.checksumMismatch r c) tail)

/-- R173: a `DECODE` held before its extra byte, taken up when the byte comes, leaves the same state as a `DECODE` that had the
byte from the start: no agent can tell.
In `Idle` and `Done` it is a `DECODE` of HOST, taken up there: the model's choice (assumption log 9).
That registers without a value agree as well is the model's choice: a free value is a function of the counter (assumption
log 17). -/
def Obligations.StagedDecodeIsTheWholeDecode : Prop :=
  ∀ (s : State) (x : Byte) (more : List Byte), s.inFlight = none → s.rxEnd = .stalls →
    s.rx.length = 7 → s.rx[3]? = some 2#8 →
    (s.phase = .awaitIdent → ∃ t, exec .awaitIdent s = .next t ∧ t.inFlight = some (.read 1) ∧
      exec .awaitIdent (t.deliver (x :: more)) = exec .awaitIdent (s.deliver (x :: more))) ∧
    (s.phase = .awaitConfirm → ∃ t, exec .awaitConfirm s = .next t ∧ t.inFlight = some (.read 1) ∧
      exec .awaitConfirm (t.deliver (x :: more)) = exec .awaitConfirm (s.deliver (x :: more))) ∧
    (s.phase = .idle → ∃ t, exec .decode s = .next t ∧ t.inFlight = some (.read 1) ∧
      exec .idle (t.deliver (x :: more)) = exec .decode (s.deliver (x :: more))) ∧
    (s.phase = .done → ∃ t, exec .decode s = .next t ∧ t.inFlight = some (.read 1) ∧
      exec .done (t.deliver (x :: more)) = exec .decode (s.deliver (x :: more)))

/-- R179 (d): the block's own command, fed back, is no frame for it, but for the one target that is the checksum of its first six
bytes. -/
def Obligations.OwnCommandDoesNotDecode : Prop :=
  ∀ (t : Word) (tail : List Byte) (e : RxEnd),
    (t ≠ 0x1F2C#16 → decodeStream (commandBytes t ++ tail) e =
      .error (.checksumMismatch t 0x1F2C#16) (checksumBytes (commandChecksum t) ++ tail)) ∧
    decodeStream (commandBytes 0x1F2C#16 ++ tail) e =
      .frame ⟨0x55#8, 0x0000#16, 0x02#8, 0x00#8, [0x02#8], 0x1F2C#16⟩ ([0x00#8, 0x00#8] ++ tail)

/-! ### The handshake -/

/-- R191: `HS.START` opens a session and touches nothing outside it.
That a block held in a `DECODE` of HOST is not free for it is the model's choice (assumption log 9). -/
def Obligations.StartOpensASession : Prop :=
  ∀ (s : State) (target : Option Word), Free s →
    ∃ t, exec (.hsStart target) s = .next t ∧
      t.phase = .awaitIdent ∧ t.targetValid = target.isSome ∧ (∀ a, target = some a → t.target = a) ∧
      t.discValid = false ∧ t.outcome = .none ∧ t.cause = .none ∧ t.rxfValid = false ∧ t.rxlen = 0#4 ∧ t.txlen = 0#4 ∧
      t.reply = .nothing ∧
      t.inFlight = s.inFlight ∧ t.rx = s.rx ∧ t.rxEnd = s.rxEnd ∧ t.tx = s.tx ∧
      t.writeAnswers = s.writeAnswers ∧ t.inbox = s.inbox

/-- R193: during a run each of HOST's four operations is refused with `Busy` and changes nothing.
`ENCODE` with operands it would refuse is refused with `Busy` too: the model's choice (assumption log 8). -/
def Obligations.BusyRefusesEveryOperation : Prop :=
  ∀ s : State, s.busy = true →
    (∀ bs, exec (.crc16 bs) s = .next { s with reply := .refused .busy }) ∧
    (∀ fn addr da pl, exec (.encode fn addr da pl) s = .next { s with reply := .refused .busy }) ∧
    exec .decode s = .next { s with reply := .refused .busy } ∧
    (∀ target, exec (.hsStart target) s = .next { s with reply := .refused .busy })

/-- R173, R278, R280: while a `DECODE` of HOST is held the block does nothing else: no operation of HOST begins or is refused, each stays
first among the moves to come, and no operation that waits in the queue is taken from it, though any other move that stands
behind it is.
That an operation HOST issues then waits is the model's choice (assumption log 9). -/
def Obligations.HeldDecodeKeepsOperationsWaiting : Prop :=
  ∀ s : State, NotBusy s → s.inFlight ≠ none →
    (∀ bs, exec (.crc16 bs) s = .next { s with inbox := .command 0b00#2 { bytes := bs } :: s.inbox }) ∧
    (∀ fn addr da pl, exec (.encode fn addr da pl) s = .next
      { s with inbox := .command 0b01#2 { bytes := pl, fn := fn, addr := addr, da := da } :: s.inbox }) ∧
    exec .decode s = .next { s with inbox := .command 0b10#2 {} :: s.inbox } ∧
    (∀ target, exec (.hsStart target) s = .next { s with inbox := .command 0b11#2 { target := target } :: s.inbox }) ∧
    (∀ opsel arg, s.nextInput ≠ some (.command opsel arg)) ∧
    (∀ (waiting rest : List Input) (i : Input), (∀ j ∈ waiting, ∃ opsel arg, j = .command opsel arg) →
      (∀ opsel arg, i ≠ .command opsel arg) → s.inbox = waiting ++ i :: rest →
      s.nextInput = some i ∧ s.popInput = { s with inbox := waiting ++ rest })

/-- R195, R196: every frame `DECODE` returns is accepted and its address captured, from the beginning of the `DECODE` and where it is
held at its second read (R173).
That no test is made is the spec's own decision (R196, D14, `IDENT_REQUIRES_REQUEST = false`; assumption log 18). -/
def Obligations.AwaitIdentCapturesTheAddress : Prop :=
  ∀ (s : State) (f : Frame) (rest : List Byte), StageFits s →
    decodeStream s.decodeBytes s.rxEnd = .frame f rest →
    ∃ t, Returns s t f rest ∧
      exec .awaitIdent s = .next { t with disc := f.deviceAddr, discValid := true, phase := .identFound }

/-- R198: each decode error ends the run in `IdentFailed`, with its cause and its diagnostics, and no byte goes to TX; from
the beginning of the `DECODE` and where it is held at its second read (R173). -/
def Obligations.AwaitIdentFails : Prop :=
  ∀ s : State, StageFits s →
    (∀ e rest, decodeStream s.decodeBytes s.rxEnd = .error e rest →
      ∃ t, exec .awaitIdent s = .next t ∧ EndsOn s t .identFailed e ∧ t.rx = rest ∧ t.discValid = s.discValid ∧ t.tx = s.tx) ∧
    (decodeStream s.decodeBytes s.rxEnd = .short →
      ∃ t, exec .awaitIdent s = .next t ∧ EndsOn s t .identFailed .shortRead ∧ t.rx <:+ s.rx ∧
        t.discValid = s.discValid ∧ t.tx = s.tx) ∧
    (decodeStream s.decodeBytes s.rxEnd = .held → ∃ t, exec .awaitIdent s = .next t ∧ HeldReading s t ∧
      (s.inFlight = some (.read 1) → t = s))

/-- R199: with no target the run is over, with one the command is built; nothing else changes. -/
def Obligations.IdentFoundBranchesOnTheTarget : Prop :=
  ∀ s : State,
    (s.targetValid = false →
      exec .identFound s = .next { s with outcome := .noChange, cause := .none, phase := .done }) ∧
    (s.targetValid = true → exec .identFound s = .next { s with phase := .buildingWriteCommand })

/-- R200, R201, R202, R67: the command is built from `TARGET` alone and written: whole on `Ok`, a proper initial part of it on
`WriteError`, and without an answer the block is held with the command built.
That the TX history holds nothing of the command then is the model's choice (assumption log 21). -/
def Obligations.BuildingWriteCommandSends : Prop :=
  ∀ s : State, s.inFlight = none →
    let cmd := builtFrame 2#8 0#16 0#8 [2#8, loByte s.target, hiByte s.target]
    (∀ as, s.writeAnswers = .ok :: as →
      ∃ t, exec .buildingWriteCommand s = .next t ∧ t.txBytes = cmd ∧ t = { s with
        phase := .awaitConfirm, tx := s.tx ++ cmd, writeAnswers := as, txb := t.txb, txlen := 10#4, acc := t.acc,
        draws := t.draws }) ∧
    (∀ as, s.writeAnswers = .writeError :: as →
      ∃ t, exec .buildingWriteCommand s = .next t ∧ t.txBytes = cmd ∧
        (∃ k, k < 10 ∧ t.tx = s.tx ++ cmd.take k) ∧ t = { s with
        phase := .done, outcome := .writeFailed, cause := .writeError, tx := t.tx, writeAnswers := as, txb := t.txb,
        txlen := 10#4, acc := t.acc, draws := t.draws }) ∧
    (s.writeAnswers = [] →
      ∃ t, exec .buildingWriteCommand s = .next t ∧ t.txBytes = cmd ∧ t = { s with
        inFlight := some (.write 10), txb := t.txb, txlen := 10#4, acc := t.acc, draws := t.draws })

/-- R201, R67: a block held in its write goes on when the answer comes: the command is not built again, what stands in `TXB` goes to
TX, and the run goes on or is over; without an answer nothing happens.
That the TX history holds nothing of the command until then is the model's choice (assumption log 21). -/
def Obligations.HeldWriteGoesOn : Prop :=
  ∀ s : State, Legal s → s.inFlight = some (.write 10) →
    s.txBytes = builtFrame 2#8 0#16 0#8 [2#8, loByte s.target, hiByte s.target] ∧
    (∀ as, s.writeAnswers = .ok :: as → exec .buildingWriteCommand s = .next
      { s with phase := .awaitConfirm, tx := s.tx ++ s.txBytes, writeAnswers := as, inFlight := none }) ∧
    (∀ as, s.writeAnswers = .writeError :: as → ∃ k n, k < 10 ∧ exec .buildingWriteCommand s = .next
      { s with phase := .done, outcome := .writeFailed, cause := .writeError, tx := s.tx ++ s.txBytes.take k,
               writeAnswers := as, inFlight := none, draws := n }) ∧
    (s.writeAnswers = [] → exec .buildingWriteCommand s = .next s)

/-- R203: nothing of the received frame enters the command: two blocks with the same target, whatever `ACC`, the discovered address,
the received bytes, the rest of the stream and every other register of each hold, build the same 10 bytes, and each that goes on has
sent exactly them; answered alike, they go the same way. -/
def Obligations.CommandIgnoresTheIdentFrame : Prop :=
  ∀ s s' : State, s.phase = .buildingWriteCommand → s'.phase = .buildingWriteCommand → s.inFlight = none → s'.inFlight = none →
    s'.target = s.target →
    ∃ t t', exec .buildingWriteCommand s = .next t ∧ exec .buildingWriteCommand s' = .next t' ∧
      t'.txBytes = t.txBytes ∧ t.txBytes.length = 10 ∧
      (t.phase = .awaitConfirm → t.tx = s.tx ++ t.txBytes) ∧ (t'.phase = .awaitConfirm → t'.tx = s'.tx ++ t.txBytes) ∧
      (s'.writeAnswers = s.writeAnswers → t'.phase = t.phase)

/-- R205 to R209: the function test first, then the address test; each branch's outcome, cause and carried value;
from the beginning of the `DECODE` and where it is held at its second read (R173). -/
def Obligations.AwaitConfirmJudgesTheFrame : Prop :=
  ∀ (s : State) (f : Frame) (rest : List Byte), StageFits s →
    decodeStream s.decodeBytes s.rxEnd = .frame f rest →
    ∃ t, Returns s t f rest ∧
      (f.function ≠ 2#8 → exec .awaitConfirm s = .next
        { t with outcome := .rejectedFunction, cause := .confirmFunctionMismatch, rxFn := f.function, phase := .done }) ∧
      (f.function = 2#8 → f.deviceAddr ≠ s.target → exec .awaitConfirm s = .next
        { t with outcome := .rejectedAddress, cause := .addressRejected, rxAddr := f.deviceAddr, phase := .done }) ∧
      (f.function = 2#8 → f.deviceAddr = s.target → exec .awaitConfirm s = .next
        { t with outcome := .confirmed, cause := .none, rxAddr := f.deviceAddr, phase := .done })

/-- R208: each decode error ends the run in `ConfirmFailed`, not in `IdentFailed`; from the beginning of the `DECODE` and where it is
held at its second read (R173). -/
def Obligations.AwaitConfirmFails : Prop :=
  ∀ s : State, StageFits s →
    (∀ e rest, decodeStream s.decodeBytes s.rxEnd = .error e rest →
      ∃ t, exec .awaitConfirm s = .next t ∧ EndsOn s t .confirmFailed e ∧ t.rx = rest ∧ t.discValid = s.discValid) ∧
    (decodeStream s.decodeBytes s.rxEnd = .short →
      ∃ t, exec .awaitConfirm s = .next t ∧ EndsOn s t .confirmFailed .shortRead ∧ t.rx <:+ s.rx ∧
        t.discValid = s.discValid) ∧
    (decodeStream s.decodeBytes s.rxEnd = .held → ∃ t, exec .awaitConfirm s = .next t ∧ HeldReading s t ∧
      (s.inFlight = some (.read 1) → t = s))

/-- R194, R210: in `Idle` and in `Done` the block takes no step.
That it takes one where a `DECODE` of HOST is held there is the model's reading (assumption log 9). -/
def Obligations.IdleAndDoneRest : Prop :=
  ∀ s : State, s.inFlight = none → exec .idle s = .next s ∧ exec .done s = .next s

/-- R164, R173, R280: a `DECODE` of HOST that is held goes on at the next step of `Idle` or `Done`: it ends as its bytes say, those of
`RXB` before those of the stream, and hands HOST its value or its error; where they do not suffice it stays held.
That the block at rest takes it up is the model's reading (assumption log 9). -/
def Obligations.HeldDecodeGoesOn : Prop :=
  ∀ (s : State) (i : Instr), Legal s → s.inFlight ≠ none →
    ((s.phase = .idle ∧ i = .idle) ∨ (s.phase = .done ∧ i = .done)) →
    match decodeStream s.decodeBytes s.rxEnd with
    | .frame f rest =>
      ∃ t, exec i s = .next { t with reply := .frame f } ∧ Returns s t f rest
    | .error e rest =>
      ∃ b l a n, exec i s = .next
        { s with rx := rest, rxb := b, rxlen := l, rxfValid := false, acc := a, inFlight := none, draws := n,
                 reply := .error e }
    | .short =>
      ∃ b l rest n, rest <:+ s.rx ∧ exec i s = .next
        { s with rx := rest, rxb := b, rxlen := l, rxfValid := false, inFlight := none, draws := n,
                 reply := .error .shortRead }
    | .held =>
      ∃ t, exec i s = .next t ∧ HeldReading s t ∧ (s.inFlight = some (.read 1) → t = s)

/-- R211: the machine's run is the function `HS.RUN`: after `HS.START` and at most four of its own steps the block is in `Done`
with the discovered address and the outcome that the function gives, and where the function gives none the block is held in
a transport call. -/
def Obligations.RunIsTheRunFunction : Prop :=
  ∀ (s : State) (target : Option Word), Free s → s.inbox = [] →
    ∃ t u, exec (.hsStart target) s = .next t ∧ core.run 4 t = .next u ∧
      match hsRun target s.rx s.rxEnd s.writeAnswers with
      | some r => u.phase = .done ∧ u.discovered = r.1 ∧ u.result = some r.2 ∧ u.inFlight = none
      | none => u.busy = true ∧ u.inFlight ≠ none ∧ u.outcome = .none

/-- R212, R279: if TRANSPORT answers every call of the run and HOST waits, the run is in `Done` once the moves to come are made and four
more steps are taken, and stays there.
R212 says finitely many steps; the bound counts steps of the machine, and that a move is a step is the model's choice (assumption
log 11).
The form of the premises `Answers` and `HostWaits` is the model's reading (assumption log 23). -/
def Obligations.AnsweredRunEnds : Prop :=
  ∀ (s : State) (target : Option Word) (n : Nat), Free s → HostWaits s → Answers s target → s.inbox.length + 4 ≤ n →
    ∃ t u, exec (.hsStart target) s = .next t ∧ core.run n t = .next u ∧ u.phase = .done ∧ u.result.isSome = true

/-- R211, R212, R279: with no moves to come, TRANSPORT answers every call exactly where the function `HS.RUN` gives a result.
The form of the premise `Answers` is the model's reading (assumption log 23). -/
def Obligations.AnswersIsWhereTheRunFunctionEnds : Prop :=
  ∀ (s : State) (target : Option Word), Free s → s.inbox = [] →
    (Answers s target ↔ (hsRun target s.rx s.rxEnd s.writeAnswers).isSome = true)

/-- R274, R279, R195, R198: what the premise `RxClean` gives a run where the first bytes that arrive end its first `DECODE` in the step
that receives them: it has looked at the frame that was sent, so an address captured is that frame's, under the start marker, and a
function refused is that frame's.
Of a `DECODE` that these bytes leave held, to be ended by later ones, it says nothing.
That the error carries the function is the spec's own choice (R34, D17; assumption log 18).
`StartsWithFrame` and `State.arriving`, in which the premise is written, are the model's reading of it (assumption log 23). -/
def Obligations.CleanStreamIsReadAtTheFrame : Prop :=
  ∀ (s : State) (target : Option Word) (bytes : List Byte) (rest : List Input),
    Free s → RxClean s → s.inbox = .received bytes :: rest →
    ∃ fn addr da pl, encodable fn pl = true ∧ StartsWithFrame bytes (builtFrame fn addr da pl) ∧
      ∃ t u, exec (.hsStart target) s = .next t ∧ step t = .next u ∧
        (u.phase = .identFound → u.disc = addr ∧ u.frameView.start = 0x55#8 ∧ u.frameView.function = fn) ∧
        (u.cause = .unexpectedFunction → u.rxFn = fn)

/-- R280, V40, P9: nothing but the environment lifts a hold: a block held in a read its stream cannot supply, or in a write without
an answer, stays exactly as it is, whatever operations of HOST wait (assumption log 9).
For a write that includes the TX history, which holds nothing of the command then: the model's choice (assumption log 21). -/
def Obligations.HoldIsForEver : Prop :=
  ∀ (s : State) (n k : Nat), Legal s → s.nextInput = none →
    ((s.inFlight = some (.read n) ∧ s.rx.length < n ∧ s.rxEnd = .stalls) ∨
     (s.inFlight = some (.write n) ∧ s.writeAnswers = [])) →
    core.run k s = .next s

/-- R219: every move of `PHASE` in a step of the machine is an arrow of the table, a start of a run from rest, or a reset. -/
def Obligations.PhaseMovesAlongTheArrows : Prop :=
  ∀ s t : State, step s = .next t →
    t.phase = s.phase ∨ phaseArrow s.phase t.phase = true ∨
    (s.startNext ∧ s.busy = false ∧ t.phase = .awaitIdent) ∨ (s.resetNext ∧ t.phase = .idle)

/-- R61: the TX history only grows, and only in `BuildingWriteCommand`, by an initial part of the one command.
That it grows when the write is answered, and by nothing while it is held or when a reset abandons it, is the model's choice
(assumption log 21). -/
def Obligations.OnlyTheCommandIsSent : Prop :=
  ∀ s t : State, Legal s → step s = .next t →
    t.tx = s.tx ∨
    (s.phase = .buildingWriteCommand ∧ ∃ k, t.tx = s.tx ++ (commandBytes s.target).take k ∧
      (t.phase = .awaitConfirm → k = 10))

/-- R30: once captured, the discovered address is written by no later step of its run, nor by anything but a new run or a
reset. -/
def Obligations.DiscoveredAddressIsKept : Prop :=
  ∀ s t : State, Legal s → step s = .next t → s.discValid = true →
    (t.discValid = true ∧ t.disc = s.disc) ∨ (s.startNext ∧ s.busy = false) ∨ s.resetNext

/-! ### Frames -/

/-- R103, R195, R206: an IDENT frame that reaches a block waiting for it: with a right checksum it gives the address; as the confirmation it
is the wrong function; with a wrong checksum it is a `ChecksumMismatch`.
That a frame's arrival is an instruction of its own is the model's choice (assumption log 7). -/
def Obligations.IdentFrameReceived : Prop :=
  ∀ (s : State) (start : Byte) (addr : Word) (da : Byte) (c : Word), s.inFlight ≠ some (.read 1) → s.rx = [] →
    (let good := c = crc16 [start, loByte addr, hiByte addr, 4#8, da]
     (s.phase = .awaitIdent → good → ∃ t, Returns s t ⟨start, addr, 4#8, da, [], c⟩ [] ∧
       exec (.ident start addr da c) s = .next { t with disc := addr, discValid := true, phase := .identFound }) ∧
     (s.phase = .awaitConfirm → good → ∃ t, Returns s t ⟨start, addr, 4#8, da, [], c⟩ [] ∧
       exec (.ident start addr da c) s = .next
         { t with outcome := .rejectedFunction, cause := .confirmFunctionMismatch, rxFn := 4#8, phase := .done }) ∧
     (s.phase = .awaitIdent → ¬good → ∃ t, exec (.ident start addr da c) s = .next t ∧ t.rx = [] ∧
       EndsOn s t .identFailed (.checksumMismatch c (crc16 [start, loByte addr, hiByte addr, 4#8, da]))) ∧
     (s.phase = .awaitConfirm → ¬good → ∃ t, exec (.ident start addr da c) s = .next t ∧ t.rx = [] ∧
       EndsOn s t .confirmFailed (.checksumMismatch c (crc16 [start, loByte addr, hiByte addr, 4#8, da]))))

/-- R104, R197: a CONFIRM frame that reaches a block waiting: the payload byte is covered by the checksum and nothing else; in
`AwaitIdent` it is accepted like an IDENT frame.
That a frame's arrival is an instruction of its own is the model's choice (assumption log 7). -/
def Obligations.ConfirmFrameReceived : Prop :=
  ∀ (s : State) (start : Byte) (addr : Word) (da p : Byte) (c : Word), s.inFlight ≠ some (.read 1) → s.rx = [] →
    (let good := c = crc16 [start, loByte addr, hiByte addr, 2#8, da, p]
     (s.phase = .awaitIdent → good → ∃ t, Returns s t ⟨start, addr, 2#8, da, [p], c⟩ [] ∧
       exec (.confirm start addr da p c) s = .next { t with disc := addr, discValid := true, phase := .identFound }) ∧
     (s.phase = .awaitConfirm → good → addr = s.target → ∃ t, Returns s t ⟨start, addr, 2#8, da, [p], c⟩ [] ∧
       exec (.confirm start addr da p c) s = .next
         { t with outcome := .confirmed, cause := .none, rxAddr := addr, phase := .done }) ∧
     (s.phase = .awaitConfirm → good → addr ≠ s.target → ∃ t, Returns s t ⟨start, addr, 2#8, da, [p], c⟩ [] ∧
       exec (.confirm start addr da p c) s = .next
         { t with outcome := .rejectedAddress, cause := .addressRejected, rxAddr := addr, phase := .done }) ∧
     (s.phase = .awaitIdent → ¬good → ∃ t, exec (.confirm start addr da p c) s = .next t ∧ t.rx = [] ∧
       EndsOn s t .identFailed (.checksumMismatch c (crc16 [start, loByte addr, hiByte addr, 2#8, da, p]))) ∧
     (s.phase = .awaitConfirm → ¬good → ∃ t, exec (.confirm start addr da p c) s = .next t ∧ t.rx = [] ∧
       EndsOn s t .confirmFailed (.checksumMismatch c (crc16 [start, loByte addr, hiByte addr, 2#8, da, p]))))

/-- R114: a READ or CONTROL frame that reaches a block waiting ends the run with `UnexpectedFunction`, whatever its checksum; 7
bytes are gone and the rest of the frame stays in the stream.
That a frame's arrival is an instruction of its own is the model's choice (assumption log 7). -/
def Obligations.ReadAndControlFramesRejected : Prop :=
  ∀ (s : State) (start : Byte) (addr : Word) (da : Byte) (pl : List Byte) (c : Word),
    s.inFlight ≠ some (.read 1) → s.rx = [] →
    (s.phase = .awaitIdent →
      (∃ t, exec (.frameRead start addr da pl c) s = .next t ∧ EndsOn s t .identFailed (.unexpectedFunction 1#8) ∧
        t.rx = (pl ++ [loByte c, hiByte c]).drop 2) ∧
      (∃ t, exec (.frameControl start addr da pl c) s = .next t ∧ EndsOn s t .identFailed (.unexpectedFunction 3#8) ∧
        t.rx = (pl ++ [loByte c, hiByte c]).drop 2)) ∧
    (s.phase = .awaitConfirm →
      (∃ t, exec (.frameRead start addr da pl c) s = .next t ∧ EndsOn s t .confirmFailed (.unexpectedFunction 1#8) ∧
        t.rx = (pl ++ [loByte c, hiByte c]).drop 2) ∧
      (∃ t, exec (.frameControl start addr da pl c) s = .next t ∧ EndsOn s t .confirmFailed (.unexpectedFunction 3#8) ∧
        t.rx = (pl ++ [loByte c, hiByte c]).drop 2))

/-- R83: a frame that reaches a block which is not reading waits at the end of the RX stream, and nothing else happens.
That a frame's arrival is an instruction of its own is the model's choice (assumption log 7). -/
def Obligations.EarlyFramesWait : Prop :=
  ∀ (s : State) (start : Byte) (addr : Word) (da p : Byte) (pl : List Byte) (c : Word), s.reading = false →
    exec (.ident start addr da c) s = .next
      { s with rx := s.rx ++ [start, loByte addr, hiByte addr, 4#8, da, loByte c, hiByte c] } ∧
    exec (.confirm start addr da p c) s = .next
      { s with rx := s.rx ++ [start, loByte addr, hiByte addr, 2#8, da, p, loByte c, hiByte c] } ∧
    exec (.frameRead start addr da pl c) s = .next
      { s with rx := s.rx ++ ([start, loByte addr, hiByte addr, 1#8, da] ++ pl ++ [loByte c, hiByte c]) } ∧
    exec (.frameControl start addr da pl c) s = .next
      { s with rx := s.rx ++ ([start, loByte addr, hiByte addr, 3#8, da] ++ pl ++ [loByte c, hiByte c]) }

/-- R83, R173, R66: a frame that reaches a block where a `DECODE` takes the next bytes, in a run or held on behalf of HOST, whatever
stands in the stream before it: its bytes join the stream, and the step that `PHASE` selects goes on with them.
That a frame's arrival is an instruction of its own is the model's choice (assumption log 7); that `Idle` and `Done` take up a held
`DECODE` is the model's reading (assumption log 9). -/
def Obligations.ArrivingFrameGoesOnWithTheDecode : Prop :=
  ∀ (s : State) (i : Instr) (start : Byte) (addr : Word) (da p : Byte) (pl : List Byte) (c : Word), s.reading = true →
    decode (.phase s.phase.code) = .ok i →
    exec (.ident start addr da c) s =
      exec i { s with rx := s.rx ++ [start, loByte addr, hiByte addr, 4#8, da, loByte c, hiByte c] } ∧
    exec (.confirm start addr da p c) s =
      exec i { s with rx := s.rx ++ [start, loByte addr, hiByte addr, 2#8, da, p, loByte c, hiByte c] } ∧
    exec (.frameRead start addr da pl c) s =
      exec i { s with rx := s.rx ++ ([start, loByte addr, hiByte addr, 1#8, da] ++ pl ++ [loByte c, hiByte c]) } ∧
    exec (.frameControl start addr da pl c) s =
      exec i { s with rx := s.rx ++ ([start, loByte addr, hiByte addr, 3#8, da] ++ pl ++ [loByte c, hiByte c]) }

/-- R105: the bytes of `SETADDR t`, that a run sends exactly them, and that `BuildingWriteCommand` is `SETADDR TARGET`.
That the frame's building and sending is its meaning as an instruction is the model's choice (assumption log 7), and so is what is
sent for another target than `TARGET` (assumption log 24). -/
def Obligations.SetAddrIsTheCommand : Prop :=
  ∀ (s : State) (target : Word), s.phase = .buildingWriteCommand →
    (let body := [0x55#8, 0x00#8, 0x00#8, 0x02#8, 0x00#8, 0x02#8, loByte target, hiByte target]
     let cmd := body ++ [loByte (crc16 body), hiByte (crc16 body)]
     encode (.setAddr target (crc16 body)) = .frame .outbound cmd ∧
     (∀ as, s.inFlight = none → s.writeAnswers = .ok :: as →
       ∃ t, exec (.setAddr target (crc16 body)) s = .next t ∧ t.txBytes = cmd ∧ t = { s with
         phase := .awaitConfirm, tx := s.tx ++ cmd, writeAnswers := as, txb := t.txb, txlen := 10#4, acc := t.acc,
         draws := t.draws })) ∧
    exec (.setAddr s.target (commandChecksum s.target)) s = exec .buildingWriteCommand s

/-- R123: outside `BuildingWriteCommand`, `SETADDR t` is HOST's `ENCODE` of that frame.
That the form has this meaning there is the model's choice (assumption log 7). -/
def Obligations.SetAddrElsewhereIsEncode : Prop :=
  ∀ (s : State) (target c : Word), s.phase ≠ .buildingWriteCommand →
    ∃ t, exec (.setAddr target c) s = .next t ∧
      exec (.encode 2#8 0#16 0#8 [2#8, loByte target, hiByte target]) s = .next t

/-! ### The machine -/

/-- The bytes or the code at the place of the next instruction select it, and the step is that instruction's, once the
environment's move is taken from the queue.
The moves that select none, the channel's and an answer to a write, change the end of the stream and the answers to come, and nothing
else; the result read and the reset have statements of their own.
The next move is the first in the queue; while a `DECODE` of HOST is held HOST's operations wait there
(`HeldDecodeKeepsOperationsWaiting`; assumption log 9).
Where the next instruction stands is the model's choice (assumption log 11). -/
def Obligations.StepRunsTheNextInstruction : Prop :=
  (∀ (s : State) (c : Code) (i : Instr), s.nextCode = some c → decode c = .ok i → step s = exec i s.popInput) ∧
  (∀ s : State, s.nextInput = none → s.popInput = s ∧ ∃ i, decode (.phase s.phase.code) = .ok i ∧ step s = exec i s) ∧
  (∀ (s : State) (arg : Operands) (opsel : BitVec 2), s.nextInput = some (.command opsel arg) →
    ∃ i, decode (.op opsel arg) = .ok i ∧ step s = exec i s.popInput) ∧
  (∀ (s : State) (bytes : List Byte), s.nextInput = some (.received bytes) → step s = .next (s.popInput.receive bytes)) ∧
  (∀ (s : State) (e : RxEnd), s.nextInput = some (.channel e) → step s = .next { s.popInput with rxEnd := e }) ∧
  (∀ (s : State) (a : WriteAnswer), s.nextInput = some (.writeAnswer a) →
    step s = .next { s.popInput with writeAnswers := s.writeAnswers ++ [a] }) ∧
  (∀ s : State, s.inbox = [] → s.nextInput = none) ∧
  (∀ (s : State) (i : Input) (rest : List Input), s.inbox = i :: rest →
    (s.busy = true ∨ s.inFlight = none ∨ ∀ opsel arg, i ≠ .command opsel arg) →
    s.nextInput = some i ∧ s.popInput = { s with inbox := rest })

/-- R235, R244, R16: no step of the machine is a stop: an error is a move to `Done`, a refusal an answer, a hold a state. -/
def Obligations.EveryStepGoesOn : Prop :=
  ∀ s : State, ∃ t, step s = .next t

/-- R43, R270, R271: a reset, from any state, and what it leaves alone.
That of a write it abandons no byte is in the TX history is the model's choice (assumption log 21), and so is that operations which
wait behind a `DECODE` it abandons stay in the queue (assumption log 25). -/
def Obligations.ResetPutsTheRegistersBack : Prop :=
  (∀ s : State, s.nextInput = some .reset →
    ∃ t, step s = .next t ∧
      t.phase = .idle ∧ t.targetValid = false ∧ t.discValid = false ∧ t.outcome = .none ∧ t.cause = .none ∧
      t.rxfValid = false ∧ t.rxlen = 0#4 ∧ t.txlen = 0#4 ∧ t.inFlight = none ∧
      t.rx = s.rx ∧ t.rxEnd = s.rxEnd ∧ t.tx = s.tx ∧ t.writeAnswers = s.writeAnswers ∧ t.inbox = s.popInput.inbox) ∧
  (State.reset.phase = .idle ∧ State.reset.targetValid = false ∧ State.reset.discValid = false ∧
    State.reset.outcome = .none ∧ State.reset.cause = .none ∧ State.reset.rxfValid = false ∧
    State.reset.rxlen = 0#4 ∧ State.reset.txlen = 0#4)

/-- The reset state is legal. -/
def Obligations.ResetIsLegal : Prop := Legal State.reset

/-- Every step keeps the state legal, whatever the environment does (the clauses of `Legal` cite their rules). -/
def Obligations.StepKeepsLegal : Prop :=
  ∀ s t : State, Legal s → step s = .next t → Legal t

/-- R214: reading the result changes nothing, and what is read is the registers' content.
That a register without a value reads as no value is the model's choice between the two answers that R44 allows (assumption
log 16). -/
def Obligations.ResultReadHasNoSideEffect : Prop :=
  ∀ s : State, s.nextInput = some .readResult →
    ∃ v : ResultView, step s = .next { s.popInput with reply := .result v } ∧
      v.phase = s.phase ∧ v.outcome = s.outcome ∧ v.cause = s.cause ∧ v.result = s.result ∧
      (s.discValid = true → v.discovered = some s.disc) ∧ (s.discValid = false → v.discovered = none) ∧
      (s.targetValid = true → v.target = some s.target) ∧ (s.targetValid = false → v.target = none) ∧
      (s.rxfValid = true → v.frame = some s.frameView) ∧ (s.rxfValid = false → v.frame = none)

/-- R214, R28: in a legal state the result can be read exactly when the run is over, and it carries what the registers hold. -/
def Obligations.ResultIsThereAtDone : Prop :=
  ∀ s : State, Legal s →
    (s.phase = .done ↔ s.result.isSome = true) ∧
    (∀ a, s.result = some (.confirmed a) → a = s.target) ∧
    (∀ a, s.result = some (.rejectedAddress a) → a ≠ s.target) ∧
    (∀ fn, s.result = some (.rejectedFunction fn) → fn = 4#8) ∧
    (∀ r c, s.result = some (.identFailed (.checksumMismatch r c)) ∨
      s.result = some (.confirmFailed (.checksumMismatch r c)) → r ≠ c) ∧
    (∀ e, s.result = some (.identFailed e) → s.discovered = none)

/-- R215: the exit status of each outcome.
0 for `RejectedFunction` and 255 for `WriteFailed` are the spec's own reading (R215, D16; assumption log 18). -/
def Obligations.ExitStatusOfEachOutcome : Prop :=
  RunOutcome.noChange.exitStatus = 0 ∧ (∀ a, (RunOutcome.confirmed a).exitStatus = 0) ∧
  (∀ a, (RunOutcome.rejectedAddress a).exitStatus = 0) ∧ (∀ fn, (RunOutcome.rejectedFunction fn).exitStatus = 0) ∧
  (∀ e, (RunOutcome.identFailed e).exitStatus = 255) ∧ (∀ e, (RunOutcome.confirmFailed e).exitStatus = 255) ∧
  RunOutcome.writeFailed.exitStatus = 255
end

