-- ==== Sys2Proof/Laws/Operands.lean ====
section
/-! SUPPORT. The small lemmas of field assembly: a 16-bit value and its two bytes (spec/20_memory.md R76), and the lengths of the
byte strings. -/

namespace Sys2Proof.Machine

@[simp] theorem le16_lo_hi (v : Word) : le16 (loByte v) (hiByte v) = v := by
  unfold le16 loByte hiByte
  ext i hi
  simp only [BitVec.getElem_or, BitVec.getElem_setWidth, BitVec.getElem_shiftLeft, BitVec.getLsbD_setWidth]
  by_cases h : i < 8
  · simp [h, BitVec.getLsbD_eq_getElem hi]
  · have h1 : i - 8 < 8 := by omega
    have h2 : 8 + (i - 8) = i := by omega
    simp [h, h1, h2, BitVec.getLsbD_eq_getElem hi]

@[simp] theorem lo_le16 (x y : Byte) : loByte (le16 x y) = x := by
  unfold le16 loByte
  ext i hi
  simp

@[simp] theorem hi_le16 (x y : Byte) : hiByte (le16 x y) = y := by
  unfold le16 hiByte
  ext i hi
  have h2 : 8 + i - 8 = i := by omega
  simp [hi, show 8 + i < 16 by omega]

theorem le16_inj {x y x' y' : Byte} (h : le16 x y = le16 x' y') : x = x' ∧ y = y' :=
  ⟨by simpa using congrArg loByte h, by simpa using congrArg hiByte h⟩

@[simp] theorem length_frameBytes (start : Byte) (addr : Word) (fn da : Byte) (pl : List Byte) (c : Word) :
    (frameBytes start addr fn da pl c).length = 7 + pl.length := by
  simp [frameBytes, headerBytes, checksumBytes]; omega

@[simp] theorem length_builtFrame (fn : Byte) (addr : Word) (da : Byte) (pl : List Byte) :
    (builtFrame fn addr da pl).length = 7 + pl.length := by
  simp [builtFrame]

@[simp] theorem length_commandBytes (t : Word) : (commandBytes t).length = 10 := by
  simp [commandBytes, commandPayload]

theorem extra_request : extra Config.fnRequest = some 0 := rfl

theorem extra_write : extra Config.fnWrite = some 1 := rfl

theorem extra_none {fn : Byte} (h4 : fn ≠ Config.fnRequest) (h2 : fn ≠ Config.fnWrite) : extra fn = none := by
  simp [extra, h4, h2]

end Sys2Proof.Machine
end

