-- ==== Sys2Proof/Laws/State.lean ====
section
/-! SUPPORT. One lemma per field per update of State, so that no proof unfolds a record update. -/

namespace Sys2Proof.Machine

variable (s : State)

/-! ### withReply -/

@[simp] theorem State.withReply_acc (r : Reply) : (s.withReply r).acc = s.acc := rfl
@[simp] theorem State.withReply_txb (r : Reply) : (s.withReply r).txb = s.txb := rfl
@[simp] theorem State.withReply_txlen (r : Reply) : (s.withReply r).txlen = s.txlen := rfl
@[simp] theorem State.withReply_rxb (r : Reply) : (s.withReply r).rxb = s.rxb := rfl
@[simp] theorem State.withReply_rxlen (r : Reply) : (s.withReply r).rxlen = s.rxlen := rfl
@[simp] theorem State.withReply_rxfValid (r : Reply) : (s.withReply r).rxfValid = s.rxfValid := rfl
@[simp] theorem State.withReply_phase (r : Reply) : (s.withReply r).phase = s.phase := rfl
@[simp] theorem State.withReply_targetValid (r : Reply) : (s.withReply r).targetValid = s.targetValid := rfl
@[simp] theorem State.withReply_target (r : Reply) : (s.withReply r).target = s.target := rfl
@[simp] theorem State.withReply_discValid (r : Reply) : (s.withReply r).discValid = s.discValid := rfl
@[simp] theorem State.withReply_disc (r : Reply) : (s.withReply r).disc = s.disc := rfl
@[simp] theorem State.withReply_outcome (r : Reply) : (s.withReply r).outcome = s.outcome := rfl
@[simp] theorem State.withReply_cause (r : Reply) : (s.withReply r).cause = s.cause := rfl
@[simp] theorem State.withReply_crcRx (r : Reply) : (s.withReply r).crcRx = s.crcRx := rfl
@[simp] theorem State.withReply_crcCalc (r : Reply) : (s.withReply r).crcCalc = s.crcCalc := rfl
@[simp] theorem State.withReply_rxFn (r : Reply) : (s.withReply r).rxFn = s.rxFn := rfl
@[simp] theorem State.withReply_rxAddr (r : Reply) : (s.withReply r).rxAddr = s.rxAddr := rfl
@[simp] theorem State.withReply_inFlight (r : Reply) : (s.withReply r).inFlight = s.inFlight := rfl
@[simp] theorem State.withReply_rx (r : Reply) : (s.withReply r).rx = s.rx := rfl
@[simp] theorem State.withReply_rxEnd (r : Reply) : (s.withReply r).rxEnd = s.rxEnd := rfl
@[simp] theorem State.withReply_tx (r : Reply) : (s.withReply r).tx = s.tx := rfl
@[simp] theorem State.withReply_writeAnswers (r : Reply) : (s.withReply r).writeAnswers = s.writeAnswers := rfl
@[simp] theorem State.withReply_inbox (r : Reply) : (s.withReply r).inbox = s.inbox := rfl
@[simp] theorem State.withReply_reply (r : Reply) : (s.withReply r).reply = r := rfl
@[simp] theorem State.withReply_draws (r : Reply) : (s.withReply r).draws = s.draws := rfl

/-! ### withCall -/

@[simp] theorem State.withCall_acc (c : Option Call) : (s.withCall c).acc = s.acc := rfl
@[simp] theorem State.withCall_txb (c : Option Call) : (s.withCall c).txb = s.txb := rfl
@[simp] theorem State.withCall_txlen (c : Option Call) : (s.withCall c).txlen = s.txlen := rfl
@[simp] theorem State.withCall_rxb (c : Option Call) : (s.withCall c).rxb = s.rxb := rfl
@[simp] theorem State.withCall_rxlen (c : Option Call) : (s.withCall c).rxlen = s.rxlen := rfl
@[simp] theorem State.withCall_rxfValid (c : Option Call) : (s.withCall c).rxfValid = s.rxfValid := rfl
@[simp] theorem State.withCall_phase (c : Option Call) : (s.withCall c).phase = s.phase := rfl
@[simp] theorem State.withCall_targetValid (c : Option Call) : (s.withCall c).targetValid = s.targetValid := rfl
@[simp] theorem State.withCall_target (c : Option Call) : (s.withCall c).target = s.target := rfl
@[simp] theorem State.withCall_discValid (c : Option Call) : (s.withCall c).discValid = s.discValid := rfl
@[simp] theorem State.withCall_disc (c : Option Call) : (s.withCall c).disc = s.disc := rfl
@[simp] theorem State.withCall_outcome (c : Option Call) : (s.withCall c).outcome = s.outcome := rfl
@[simp] theorem State.withCall_cause (c : Option Call) : (s.withCall c).cause = s.cause := rfl
@[simp] theorem State.withCall_crcRx (c : Option Call) : (s.withCall c).crcRx = s.crcRx := rfl
@[simp] theorem State.withCall_crcCalc (c : Option Call) : (s.withCall c).crcCalc = s.crcCalc := rfl
@[simp] theorem State.withCall_rxFn (c : Option Call) : (s.withCall c).rxFn = s.rxFn := rfl
@[simp] theorem State.withCall_rxAddr (c : Option Call) : (s.withCall c).rxAddr = s.rxAddr := rfl
@[simp] theorem State.withCall_inFlight (c : Option Call) : (s.withCall c).inFlight = c := rfl
@[simp] theorem State.withCall_rx (c : Option Call) : (s.withCall c).rx = s.rx := rfl
@[simp] theorem State.withCall_rxEnd (c : Option Call) : (s.withCall c).rxEnd = s.rxEnd := rfl
@[simp] theorem State.withCall_tx (c : Option Call) : (s.withCall c).tx = s.tx := rfl
@[simp] theorem State.withCall_writeAnswers (c : Option Call) : (s.withCall c).writeAnswers = s.writeAnswers := rfl
@[simp] theorem State.withCall_inbox (c : Option Call) : (s.withCall c).inbox = s.inbox := rfl
@[simp] theorem State.withCall_reply (c : Option Call) : (s.withCall c).reply = s.reply := rfl
@[simp] theorem State.withCall_draws (c : Option Call) : (s.withCall c).draws = s.draws := rfl

/-! ### withRx -/

@[simp] theorem State.withRx_acc (bs : List Byte) : (s.withRx bs).acc = s.acc := rfl
@[simp] theorem State.withRx_txb (bs : List Byte) : (s.withRx bs).txb = s.txb := rfl
@[simp] theorem State.withRx_txlen (bs : List Byte) : (s.withRx bs).txlen = s.txlen := rfl
@[simp] theorem State.withRx_rxb (bs : List Byte) : (s.withRx bs).rxb = s.rxb := rfl
@[simp] theorem State.withRx_rxlen (bs : List Byte) : (s.withRx bs).rxlen = s.rxlen := rfl
@[simp] theorem State.withRx_rxfValid (bs : List Byte) : (s.withRx bs).rxfValid = s.rxfValid := rfl
@[simp] theorem State.withRx_phase (bs : List Byte) : (s.withRx bs).phase = s.phase := rfl
@[simp] theorem State.withRx_targetValid (bs : List Byte) : (s.withRx bs).targetValid = s.targetValid := rfl
@[simp] theorem State.withRx_target (bs : List Byte) : (s.withRx bs).target = s.target := rfl
@[simp] theorem State.withRx_discValid (bs : List Byte) : (s.withRx bs).discValid = s.discValid := rfl
@[simp] theorem State.withRx_disc (bs : List Byte) : (s.withRx bs).disc = s.disc := rfl
@[simp] theorem State.withRx_outcome (bs : List Byte) : (s.withRx bs).outcome = s.outcome := rfl
@[simp] theorem State.withRx_cause (bs : List Byte) : (s.withRx bs).cause = s.cause := rfl
@[simp] theorem State.withRx_crcRx (bs : List Byte) : (s.withRx bs).crcRx = s.crcRx := rfl
@[simp] theorem State.withRx_crcCalc (bs : List Byte) : (s.withRx bs).crcCalc = s.crcCalc := rfl
@[simp] theorem State.withRx_rxFn (bs : List Byte) : (s.withRx bs).rxFn = s.rxFn := rfl
@[simp] theorem State.withRx_rxAddr (bs : List Byte) : (s.withRx bs).rxAddr = s.rxAddr := rfl
@[simp] theorem State.withRx_inFlight (bs : List Byte) : (s.withRx bs).inFlight = s.inFlight := rfl
@[simp] theorem State.withRx_rx (bs : List Byte) : (s.withRx bs).rx = bs := rfl
@[simp] theorem State.withRx_rxEnd (bs : List Byte) : (s.withRx bs).rxEnd = s.rxEnd := rfl
@[simp] theorem State.withRx_tx (bs : List Byte) : (s.withRx bs).tx = s.tx := rfl
@[simp] theorem State.withRx_writeAnswers (bs : List Byte) : (s.withRx bs).writeAnswers = s.writeAnswers := rfl
@[simp] theorem State.withRx_inbox (bs : List Byte) : (s.withRx bs).inbox = s.inbox := rfl
@[simp] theorem State.withRx_reply (bs : List Byte) : (s.withRx bs).reply = s.reply := rfl
@[simp] theorem State.withRx_draws (bs : List Byte) : (s.withRx bs).draws = s.draws := rfl

/-! ### withRxEnd -/

@[simp] theorem State.withRxEnd_acc (e : RxEnd) : (s.withRxEnd e).acc = s.acc := rfl
@[simp] theorem State.withRxEnd_txb (e : RxEnd) : (s.withRxEnd e).txb = s.txb := rfl
@[simp] theorem State.withRxEnd_txlen (e : RxEnd) : (s.withRxEnd e).txlen = s.txlen := rfl
@[simp] theorem State.withRxEnd_rxb (e : RxEnd) : (s.withRxEnd e).rxb = s.rxb := rfl
@[simp] theorem State.withRxEnd_rxlen (e : RxEnd) : (s.withRxEnd e).rxlen = s.rxlen := rfl
@[simp] theorem State.withRxEnd_rxfValid (e : RxEnd) : (s.withRxEnd e).rxfValid = s.rxfValid := rfl
@[simp] theorem State.withRxEnd_phase (e : RxEnd) : (s.withRxEnd e).phase = s.phase := rfl
@[simp] theorem State.withRxEnd_targetValid (e : RxEnd) : (s.withRxEnd e).targetValid = s.targetValid := rfl
@[simp] theorem State.withRxEnd_target (e : RxEnd) : (s.withRxEnd e).target = s.target := rfl
@[simp] theorem State.withRxEnd_discValid (e : RxEnd) : (s.withRxEnd e).discValid = s.discValid := rfl
@[simp] theorem State.withRxEnd_disc (e : RxEnd) : (s.withRxEnd e).disc = s.disc := rfl
@[simp] theorem State.withRxEnd_outcome (e : RxEnd) : (s.withRxEnd e).outcome = s.outcome := rfl
@[simp] theorem State.withRxEnd_cause (e : RxEnd) : (s.withRxEnd e).cause = s.cause := rfl
@[simp] theorem State.withRxEnd_crcRx (e : RxEnd) : (s.withRxEnd e).crcRx = s.crcRx := rfl
@[simp] theorem State.withRxEnd_crcCalc (e : RxEnd) : (s.withRxEnd e).crcCalc = s.crcCalc := rfl
@[simp] theorem State.withRxEnd_rxFn (e : RxEnd) : (s.withRxEnd e).rxFn = s.rxFn := rfl
@[simp] theorem State.withRxEnd_rxAddr (e : RxEnd) : (s.withRxEnd e).rxAddr = s.rxAddr := rfl
@[simp] theorem State.withRxEnd_inFlight (e : RxEnd) : (s.withRxEnd e).inFlight = s.inFlight := rfl
@[simp] theorem State.withRxEnd_rx (e : RxEnd) : (s.withRxEnd e).rx = s.rx := rfl
@[simp] theorem State.withRxEnd_rxEnd (e : RxEnd) : (s.withRxEnd e).rxEnd = e := rfl
@[simp] theorem State.withRxEnd_tx (e : RxEnd) : (s.withRxEnd e).tx = s.tx := rfl
@[simp] theorem State.withRxEnd_writeAnswers (e : RxEnd) : (s.withRxEnd e).writeAnswers = s.writeAnswers := rfl
@[simp] theorem State.withRxEnd_inbox (e : RxEnd) : (s.withRxEnd e).inbox = s.inbox := rfl
@[simp] theorem State.withRxEnd_reply (e : RxEnd) : (s.withRxEnd e).reply = s.reply := rfl
@[simp] theorem State.withRxEnd_draws (e : RxEnd) : (s.withRxEnd e).draws = s.draws := rfl

/-! ### appendTx -/

@[simp] theorem State.appendTx_acc (bs : List Byte) : (s.appendTx bs).acc = s.acc := rfl
@[simp] theorem State.appendTx_txb (bs : List Byte) : (s.appendTx bs).txb = s.txb := rfl
@[simp] theorem State.appendTx_txlen (bs : List Byte) : (s.appendTx bs).txlen = s.txlen := rfl
@[simp] theorem State.appendTx_rxb (bs : List Byte) : (s.appendTx bs).rxb = s.rxb := rfl
@[simp] theorem State.appendTx_rxlen (bs : List Byte) : (s.appendTx bs).rxlen = s.rxlen := rfl
@[simp] theorem State.appendTx_rxfValid (bs : List Byte) : (s.appendTx bs).rxfValid = s.rxfValid := rfl
@[simp] theorem State.appendTx_phase (bs : List Byte) : (s.appendTx bs).phase = s.phase := rfl
@[simp] theorem State.appendTx_targetValid (bs : List Byte) : (s.appendTx bs).targetValid = s.targetValid := rfl
@[simp] theorem State.appendTx_target (bs : List Byte) : (s.appendTx bs).target = s.target := rfl
@[simp] theorem State.appendTx_discValid (bs : List Byte) : (s.appendTx bs).discValid = s.discValid := rfl
@[simp] theorem State.appendTx_disc (bs : List Byte) : (s.appendTx bs).disc = s.disc := rfl
@[simp] theorem State.appendTx_outcome (bs : List Byte) : (s.appendTx bs).outcome = s.outcome := rfl
@[simp] theorem State.appendTx_cause (bs : List Byte) : (s.appendTx bs).cause = s.cause := rfl
@[simp] theorem State.appendTx_crcRx (bs : List Byte) : (s.appendTx bs).crcRx = s.crcRx := rfl
@[simp] theorem State.appendTx_crcCalc (bs : List Byte) : (s.appendTx bs).crcCalc = s.crcCalc := rfl
@[simp] theorem State.appendTx_rxFn (bs : List Byte) : (s.appendTx bs).rxFn = s.rxFn := rfl
@[simp] theorem State.appendTx_rxAddr (bs : List Byte) : (s.appendTx bs).rxAddr = s.rxAddr := rfl
@[simp] theorem State.appendTx_inFlight (bs : List Byte) : (s.appendTx bs).inFlight = s.inFlight := rfl
@[simp] theorem State.appendTx_rx (bs : List Byte) : (s.appendTx bs).rx = s.rx := rfl
@[simp] theorem State.appendTx_rxEnd (bs : List Byte) : (s.appendTx bs).rxEnd = s.rxEnd := rfl
@[simp] theorem State.appendTx_tx (bs : List Byte) : (s.appendTx bs).tx = s.tx ++ bs := rfl
@[simp] theorem State.appendTx_writeAnswers (bs : List Byte) : (s.appendTx bs).writeAnswers = s.writeAnswers := rfl
@[simp] theorem State.appendTx_inbox (bs : List Byte) : (s.appendTx bs).inbox = s.inbox := rfl
@[simp] theorem State.appendTx_reply (bs : List Byte) : (s.appendTx bs).reply = s.reply := rfl
@[simp] theorem State.appendTx_draws (bs : List Byte) : (s.appendTx bs).draws = s.draws := rfl

/-! ### withAnswers -/

@[simp] theorem State.withAnswers_acc (as : List WriteAnswer) : (s.withAnswers as).acc = s.acc := rfl
@[simp] theorem State.withAnswers_txb (as : List WriteAnswer) : (s.withAnswers as).txb = s.txb := rfl
@[simp] theorem State.withAnswers_txlen (as : List WriteAnswer) : (s.withAnswers as).txlen = s.txlen := rfl
@[simp] theorem State.withAnswers_rxb (as : List WriteAnswer) : (s.withAnswers as).rxb = s.rxb := rfl
@[simp] theorem State.withAnswers_rxlen (as : List WriteAnswer) : (s.withAnswers as).rxlen = s.rxlen := rfl
@[simp] theorem State.withAnswers_rxfValid (as : List WriteAnswer) : (s.withAnswers as).rxfValid = s.rxfValid := rfl
@[simp] theorem State.withAnswers_phase (as : List WriteAnswer) : (s.withAnswers as).phase = s.phase := rfl
@[simp] theorem State.withAnswers_targetValid (as : List WriteAnswer) : (s.withAnswers as).targetValid = s.targetValid := rfl
@[simp] theorem State.withAnswers_target (as : List WriteAnswer) : (s.withAnswers as).target = s.target := rfl
@[simp] theorem State.withAnswers_discValid (as : List WriteAnswer) : (s.withAnswers as).discValid = s.discValid := rfl
@[simp] theorem State.withAnswers_disc (as : List WriteAnswer) : (s.withAnswers as).disc = s.disc := rfl
@[simp] theorem State.withAnswers_outcome (as : List WriteAnswer) : (s.withAnswers as).outcome = s.outcome := rfl
@[simp] theorem State.withAnswers_cause (as : List WriteAnswer) : (s.withAnswers as).cause = s.cause := rfl
@[simp] theorem State.withAnswers_crcRx (as : List WriteAnswer) : (s.withAnswers as).crcRx = s.crcRx := rfl
@[simp] theorem State.withAnswers_crcCalc (as : List WriteAnswer) : (s.withAnswers as).crcCalc = s.crcCalc := rfl
@[simp] theorem State.withAnswers_rxFn (as : List WriteAnswer) : (s.withAnswers as).rxFn = s.rxFn := rfl
@[simp] theorem State.withAnswers_rxAddr (as : List WriteAnswer) : (s.withAnswers as).rxAddr = s.rxAddr := rfl
@[simp] theorem State.withAnswers_inFlight (as : List WriteAnswer) : (s.withAnswers as).inFlight = s.inFlight := rfl
@[simp] theorem State.withAnswers_rx (as : List WriteAnswer) : (s.withAnswers as).rx = s.rx := rfl
@[simp] theorem State.withAnswers_rxEnd (as : List WriteAnswer) : (s.withAnswers as).rxEnd = s.rxEnd := rfl
@[simp] theorem State.withAnswers_tx (as : List WriteAnswer) : (s.withAnswers as).tx = s.tx := rfl
@[simp] theorem State.withAnswers_writeAnswers (as : List WriteAnswer) : (s.withAnswers as).writeAnswers = as := rfl
@[simp] theorem State.withAnswers_inbox (as : List WriteAnswer) : (s.withAnswers as).inbox = s.inbox := rfl
@[simp] theorem State.withAnswers_reply (as : List WriteAnswer) : (s.withAnswers as).reply = s.reply := rfl
@[simp] theorem State.withAnswers_draws (as : List WriteAnswer) : (s.withAnswers as).draws = s.draws := rfl

/-! ### withInbox -/

@[simp] theorem State.withInbox_acc (is : List Input) : (s.withInbox is).acc = s.acc := rfl
@[simp] theorem State.withInbox_txb (is : List Input) : (s.withInbox is).txb = s.txb := rfl
@[simp] theorem State.withInbox_txlen (is : List Input) : (s.withInbox is).txlen = s.txlen := rfl
@[simp] theorem State.withInbox_rxb (is : List Input) : (s.withInbox is).rxb = s.rxb := rfl
@[simp] theorem State.withInbox_rxlen (is : List Input) : (s.withInbox is).rxlen = s.rxlen := rfl
@[simp] theorem State.withInbox_rxfValid (is : List Input) : (s.withInbox is).rxfValid = s.rxfValid := rfl
@[simp] theorem State.withInbox_phase (is : List Input) : (s.withInbox is).phase = s.phase := rfl
@[simp] theorem State.withInbox_targetValid (is : List Input) : (s.withInbox is).targetValid = s.targetValid := rfl
@[simp] theorem State.withInbox_target (is : List Input) : (s.withInbox is).target = s.target := rfl
@[simp] theorem State.withInbox_discValid (is : List Input) : (s.withInbox is).discValid = s.discValid := rfl
@[simp] theorem State.withInbox_disc (is : List Input) : (s.withInbox is).disc = s.disc := rfl
@[simp] theorem State.withInbox_outcome (is : List Input) : (s.withInbox is).outcome = s.outcome := rfl
@[simp] theorem State.withInbox_cause (is : List Input) : (s.withInbox is).cause = s.cause := rfl
@[simp] theorem State.withInbox_crcRx (is : List Input) : (s.withInbox is).crcRx = s.crcRx := rfl
@[simp] theorem State.withInbox_crcCalc (is : List Input) : (s.withInbox is).crcCalc = s.crcCalc := rfl
@[simp] theorem State.withInbox_rxFn (is : List Input) : (s.withInbox is).rxFn = s.rxFn := rfl
@[simp] theorem State.withInbox_rxAddr (is : List Input) : (s.withInbox is).rxAddr = s.rxAddr := rfl
@[simp] theorem State.withInbox_inFlight (is : List Input) : (s.withInbox is).inFlight = s.inFlight := rfl
@[simp] theorem State.withInbox_rx (is : List Input) : (s.withInbox is).rx = s.rx := rfl
@[simp] theorem State.withInbox_rxEnd (is : List Input) : (s.withInbox is).rxEnd = s.rxEnd := rfl
@[simp] theorem State.withInbox_tx (is : List Input) : (s.withInbox is).tx = s.tx := rfl
@[simp] theorem State.withInbox_writeAnswers (is : List Input) : (s.withInbox is).writeAnswers = s.writeAnswers := rfl
@[simp] theorem State.withInbox_inbox (is : List Input) : (s.withInbox is).inbox = is := rfl
@[simp] theorem State.withInbox_reply (is : List Input) : (s.withInbox is).reply = s.reply := rfl
@[simp] theorem State.withInbox_draws (is : List Input) : (s.withInbox is).draws = s.draws := rfl

/-! ### tick -/

@[simp] theorem State.tick_acc : (s.tick).acc = s.acc := rfl
@[simp] theorem State.tick_txb : (s.tick).txb = s.txb := rfl
@[simp] theorem State.tick_txlen : (s.tick).txlen = s.txlen := rfl
@[simp] theorem State.tick_rxb : (s.tick).rxb = s.rxb := rfl
@[simp] theorem State.tick_rxlen : (s.tick).rxlen = s.rxlen := rfl
@[simp] theorem State.tick_rxfValid : (s.tick).rxfValid = s.rxfValid := rfl
@[simp] theorem State.tick_phase : (s.tick).phase = s.phase := rfl
@[simp] theorem State.tick_targetValid : (s.tick).targetValid = s.targetValid := rfl
@[simp] theorem State.tick_target : (s.tick).target = s.target := rfl
@[simp] theorem State.tick_discValid : (s.tick).discValid = s.discValid := rfl
@[simp] theorem State.tick_disc : (s.tick).disc = s.disc := rfl
@[simp] theorem State.tick_outcome : (s.tick).outcome = s.outcome := rfl
@[simp] theorem State.tick_cause : (s.tick).cause = s.cause := rfl
@[simp] theorem State.tick_crcRx : (s.tick).crcRx = s.crcRx := rfl
@[simp] theorem State.tick_crcCalc : (s.tick).crcCalc = s.crcCalc := rfl
@[simp] theorem State.tick_rxFn : (s.tick).rxFn = s.rxFn := rfl
@[simp] theorem State.tick_rxAddr : (s.tick).rxAddr = s.rxAddr := rfl
@[simp] theorem State.tick_inFlight : (s.tick).inFlight = s.inFlight := rfl
@[simp] theorem State.tick_rx : (s.tick).rx = s.rx := rfl
@[simp] theorem State.tick_rxEnd : (s.tick).rxEnd = s.rxEnd := rfl
@[simp] theorem State.tick_tx : (s.tick).tx = s.tx := rfl
@[simp] theorem State.tick_writeAnswers : (s.tick).writeAnswers = s.writeAnswers := rfl
@[simp] theorem State.tick_inbox : (s.tick).inbox = s.inbox := rfl
@[simp] theorem State.tick_reply : (s.tick).reply = s.reply := rfl
@[simp] theorem State.tick_draws : (s.tick).draws = s.draws + 1 := rfl

/-! ### withAcc -/

@[simp] theorem State.withAcc_acc (a : Word) : (s.withAcc a).acc = a := rfl
@[simp] theorem State.withAcc_txb (a : Word) : (s.withAcc a).txb = s.txb := rfl
@[simp] theorem State.withAcc_txlen (a : Word) : (s.withAcc a).txlen = s.txlen := rfl
@[simp] theorem State.withAcc_rxb (a : Word) : (s.withAcc a).rxb = s.rxb := rfl
@[simp] theorem State.withAcc_rxlen (a : Word) : (s.withAcc a).rxlen = s.rxlen := rfl
@[simp] theorem State.withAcc_rxfValid (a : Word) : (s.withAcc a).rxfValid = s.rxfValid := rfl
@[simp] theorem State.withAcc_phase (a : Word) : (s.withAcc a).phase = s.phase := rfl
@[simp] theorem State.withAcc_targetValid (a : Word) : (s.withAcc a).targetValid = s.targetValid := rfl
@[simp] theorem State.withAcc_target (a : Word) : (s.withAcc a).target = s.target := rfl
@[simp] theorem State.withAcc_discValid (a : Word) : (s.withAcc a).discValid = s.discValid := rfl
@[simp] theorem State.withAcc_disc (a : Word) : (s.withAcc a).disc = s.disc := rfl
@[simp] theorem State.withAcc_outcome (a : Word) : (s.withAcc a).outcome = s.outcome := rfl
@[simp] theorem State.withAcc_cause (a : Word) : (s.withAcc a).cause = s.cause := rfl
@[simp] theorem State.withAcc_crcRx (a : Word) : (s.withAcc a).crcRx = s.crcRx := rfl
@[simp] theorem State.withAcc_crcCalc (a : Word) : (s.withAcc a).crcCalc = s.crcCalc := rfl
@[simp] theorem State.withAcc_rxFn (a : Word) : (s.withAcc a).rxFn = s.rxFn := rfl
@[simp] theorem State.withAcc_rxAddr (a : Word) : (s.withAcc a).rxAddr = s.rxAddr := rfl
@[simp] theorem State.withAcc_inFlight (a : Word) : (s.withAcc a).inFlight = s.inFlight := rfl
@[simp] theorem State.withAcc_rx (a : Word) : (s.withAcc a).rx = s.rx := rfl
@[simp] theorem State.withAcc_rxEnd (a : Word) : (s.withAcc a).rxEnd = s.rxEnd := rfl
@[simp] theorem State.withAcc_tx (a : Word) : (s.withAcc a).tx = s.tx := rfl
@[simp] theorem State.withAcc_writeAnswers (a : Word) : (s.withAcc a).writeAnswers = s.writeAnswers := rfl
@[simp] theorem State.withAcc_inbox (a : Word) : (s.withAcc a).inbox = s.inbox := rfl
@[simp] theorem State.withAcc_reply (a : Word) : (s.withAcc a).reply = s.reply := rfl
@[simp] theorem State.withAcc_draws (a : Word) : (s.withAcc a).draws = s.draws := rfl

/-! ### putTx -/

@[simp] theorem State.putTx_acc (bs : List Byte) : (s.putTx bs).acc = s.acc := rfl
@[simp] theorem State.putTx_txb (bs : List Byte) : (s.putTx bs).txb = (freeTxBuf s.draws).load bs := rfl
@[simp] theorem State.putTx_txlen (bs : List Byte) : (s.putTx bs).txlen = BitVec.ofNat 4 bs.length := rfl
@[simp] theorem State.putTx_rxb (bs : List Byte) : (s.putTx bs).rxb = s.rxb := rfl
@[simp] theorem State.putTx_rxlen (bs : List Byte) : (s.putTx bs).rxlen = s.rxlen := rfl
@[simp] theorem State.putTx_rxfValid (bs : List Byte) : (s.putTx bs).rxfValid = s.rxfValid := rfl
@[simp] theorem State.putTx_phase (bs : List Byte) : (s.putTx bs).phase = s.phase := rfl
@[simp] theorem State.putTx_targetValid (bs : List Byte) : (s.putTx bs).targetValid = s.targetValid := rfl
@[simp] theorem State.putTx_target (bs : List Byte) : (s.putTx bs).target = s.target := rfl
@[simp] theorem State.putTx_discValid (bs : List Byte) : (s.putTx bs).discValid = s.discValid := rfl
@[simp] theorem State.putTx_disc (bs : List Byte) : (s.putTx bs).disc = s.disc := rfl
@[simp] theorem State.putTx_outcome (bs : List Byte) : (s.putTx bs).outcome = s.outcome := rfl
@[simp] theorem State.putTx_cause (bs : List Byte) : (s.putTx bs).cause = s.cause := rfl
@[simp] theorem State.putTx_crcRx (bs : List Byte) : (s.putTx bs).crcRx = s.crcRx := rfl
@[simp] theorem State.putTx_crcCalc (bs : List Byte) : (s.putTx bs).crcCalc = s.crcCalc := rfl
@[simp] theorem State.putTx_rxFn (bs : List Byte) : (s.putTx bs).rxFn = s.rxFn := rfl
@[simp] theorem State.putTx_rxAddr (bs : List Byte) : (s.putTx bs).rxAddr = s.rxAddr := rfl
@[simp] theorem State.putTx_inFlight (bs : List Byte) : (s.putTx bs).inFlight = s.inFlight := rfl
@[simp] theorem State.putTx_rx (bs : List Byte) : (s.putTx bs).rx = s.rx := rfl
@[simp] theorem State.putTx_rxEnd (bs : List Byte) : (s.putTx bs).rxEnd = s.rxEnd := rfl
@[simp] theorem State.putTx_tx (bs : List Byte) : (s.putTx bs).tx = s.tx := rfl
@[simp] theorem State.putTx_writeAnswers (bs : List Byte) : (s.putTx bs).writeAnswers = s.writeAnswers := rfl
@[simp] theorem State.putTx_inbox (bs : List Byte) : (s.putTx bs).inbox = s.inbox := rfl
@[simp] theorem State.putTx_reply (bs : List Byte) : (s.putTx bs).reply = s.reply := rfl
@[simp] theorem State.putTx_draws (bs : List Byte) : (s.putTx bs).draws = s.draws + 1 := rfl

/-! ### putRx -/

@[simp] theorem State.putRx_acc (bs : List Byte) : (s.putRx bs).acc = s.acc := rfl
@[simp] theorem State.putRx_txb (bs : List Byte) : (s.putRx bs).txb = s.txb := rfl
@[simp] theorem State.putRx_txlen (bs : List Byte) : (s.putRx bs).txlen = s.txlen := rfl
@[simp] theorem State.putRx_rxb (bs : List Byte) : (s.putRx bs).rxb = s.rxb.loadFirst bs := rfl
@[simp] theorem State.putRx_rxlen (bs : List Byte) : (s.putRx bs).rxlen = 7#4 := rfl
@[simp] theorem State.putRx_rxfValid (bs : List Byte) : (s.putRx bs).rxfValid = s.rxfValid := rfl
@[simp] theorem State.putRx_phase (bs : List Byte) : (s.putRx bs).phase = s.phase := rfl
@[simp] theorem State.putRx_targetValid (bs : List Byte) : (s.putRx bs).targetValid = s.targetValid := rfl
@[simp] theorem State.putRx_target (bs : List Byte) : (s.putRx bs).target = s.target := rfl
@[simp] theorem State.putRx_discValid (bs : List Byte) : (s.putRx bs).discValid = s.discValid := rfl
@[simp] theorem State.putRx_disc (bs : List Byte) : (s.putRx bs).disc = s.disc := rfl
@[simp] theorem State.putRx_outcome (bs : List Byte) : (s.putRx bs).outcome = s.outcome := rfl
@[simp] theorem State.putRx_cause (bs : List Byte) : (s.putRx bs).cause = s.cause := rfl
@[simp] theorem State.putRx_crcRx (bs : List Byte) : (s.putRx bs).crcRx = s.crcRx := rfl
@[simp] theorem State.putRx_crcCalc (bs : List Byte) : (s.putRx bs).crcCalc = s.crcCalc := rfl
@[simp] theorem State.putRx_rxFn (bs : List Byte) : (s.putRx bs).rxFn = s.rxFn := rfl
@[simp] theorem State.putRx_rxAddr (bs : List Byte) : (s.putRx bs).rxAddr = s.rxAddr := rfl
@[simp] theorem State.putRx_inFlight (bs : List Byte) : (s.putRx bs).inFlight = s.inFlight := rfl
@[simp] theorem State.putRx_rx (bs : List Byte) : (s.putRx bs).rx = s.rx := rfl
@[simp] theorem State.putRx_rxEnd (bs : List Byte) : (s.putRx bs).rxEnd = s.rxEnd := rfl
@[simp] theorem State.putRx_tx (bs : List Byte) : (s.putRx bs).tx = s.tx := rfl
@[simp] theorem State.putRx_writeAnswers (bs : List Byte) : (s.putRx bs).writeAnswers = s.writeAnswers := rfl
@[simp] theorem State.putRx_inbox (bs : List Byte) : (s.putRx bs).inbox = s.inbox := rfl
@[simp] theorem State.putRx_reply (bs : List Byte) : (s.putRx bs).reply = s.reply := rfl
@[simp] theorem State.putRx_draws (bs : List Byte) : (s.putRx bs).draws = s.draws := rfl

/-! ### putRxExtra -/

@[simp] theorem State.putRxExtra_acc (bs : List Byte) : (s.putRxExtra bs).acc = s.acc := rfl
@[simp] theorem State.putRxExtra_txb (bs : List Byte) : (s.putRxExtra bs).txb = s.txb := rfl
@[simp] theorem State.putRxExtra_txlen (bs : List Byte) : (s.putRxExtra bs).txlen = s.txlen := rfl
@[simp] theorem State.putRxExtra_rxb (bs : List Byte) : (s.putRxExtra bs).rxb = s.rxb.loadExtra bs := rfl
@[simp] theorem State.putRxExtra_rxlen (bs : List Byte) : (s.putRxExtra bs).rxlen = 8#4 := rfl
@[simp] theorem State.putRxExtra_rxfValid (bs : List Byte) : (s.putRxExtra bs).rxfValid = s.rxfValid := rfl
@[simp] theorem State.putRxExtra_phase (bs : List Byte) : (s.putRxExtra bs).phase = s.phase := rfl
@[simp] theorem State.putRxExtra_targetValid (bs : List Byte) : (s.putRxExtra bs).targetValid = s.targetValid := rfl
@[simp] theorem State.putRxExtra_target (bs : List Byte) : (s.putRxExtra bs).target = s.target := rfl
@[simp] theorem State.putRxExtra_discValid (bs : List Byte) : (s.putRxExtra bs).discValid = s.discValid := rfl
@[simp] theorem State.putRxExtra_disc (bs : List Byte) : (s.putRxExtra bs).disc = s.disc := rfl
@[simp] theorem State.putRxExtra_outcome (bs : List Byte) : (s.putRxExtra bs).outcome = s.outcome := rfl
@[simp] theorem State.putRxExtra_cause (bs : List Byte) : (s.putRxExtra bs).cause = s.cause := rfl
@[simp] theorem State.putRxExtra_crcRx (bs : List Byte) : (s.putRxExtra bs).crcRx = s.crcRx := rfl
@[simp] theorem State.putRxExtra_crcCalc (bs : List Byte) : (s.putRxExtra bs).crcCalc = s.crcCalc := rfl
@[simp] theorem State.putRxExtra_rxFn (bs : List Byte) : (s.putRxExtra bs).rxFn = s.rxFn := rfl
@[simp] theorem State.putRxExtra_rxAddr (bs : List Byte) : (s.putRxExtra bs).rxAddr = s.rxAddr := rfl
@[simp] theorem State.putRxExtra_inFlight (bs : List Byte) : (s.putRxExtra bs).inFlight = s.inFlight := rfl
@[simp] theorem State.putRxExtra_rx (bs : List Byte) : (s.putRxExtra bs).rx = s.rx := rfl
@[simp] theorem State.putRxExtra_rxEnd (bs : List Byte) : (s.putRxExtra bs).rxEnd = s.rxEnd := rfl
@[simp] theorem State.putRxExtra_tx (bs : List Byte) : (s.putRxExtra bs).tx = s.tx := rfl
@[simp] theorem State.putRxExtra_writeAnswers (bs : List Byte) : (s.putRxExtra bs).writeAnswers = s.writeAnswers := rfl
@[simp] theorem State.putRxExtra_inbox (bs : List Byte) : (s.putRxExtra bs).inbox = s.inbox := rfl
@[simp] theorem State.putRxExtra_reply (bs : List Byte) : (s.putRxExtra bs).reply = s.reply := rfl
@[simp] theorem State.putRxExtra_draws (bs : List Byte) : (s.putRxExtra bs).draws = s.draws := rfl

/-! ### withFrameValid -/

@[simp] theorem State.withFrameValid_acc (b : Bool) : (s.withFrameValid b).acc = s.acc := rfl
@[simp] theorem State.withFrameValid_txb (b : Bool) : (s.withFrameValid b).txb = s.txb := rfl
@[simp] theorem State.withFrameValid_txlen (b : Bool) : (s.withFrameValid b).txlen = s.txlen := rfl
@[simp] theorem State.withFrameValid_rxb (b : Bool) : (s.withFrameValid b).rxb = s.rxb := rfl
@[simp] theorem State.withFrameValid_rxlen (b : Bool) : (s.withFrameValid b).rxlen = s.rxlen := rfl
@[simp] theorem State.withFrameValid_rxfValid (b : Bool) : (s.withFrameValid b).rxfValid = b := rfl
@[simp] theorem State.withFrameValid_phase (b : Bool) : (s.withFrameValid b).phase = s.phase := rfl
@[simp] theorem State.withFrameValid_targetValid (b : Bool) : (s.withFrameValid b).targetValid = s.targetValid := rfl
@[simp] theorem State.withFrameValid_target (b : Bool) : (s.withFrameValid b).target = s.target := rfl
@[simp] theorem State.withFrameValid_discValid (b : Bool) : (s.withFrameValid b).discValid = s.discValid := rfl
@[simp] theorem State.withFrameValid_disc (b : Bool) : (s.withFrameValid b).disc = s.disc := rfl
@[simp] theorem State.withFrameValid_outcome (b : Bool) : (s.withFrameValid b).outcome = s.outcome := rfl
@[simp] theorem State.withFrameValid_cause (b : Bool) : (s.withFrameValid b).cause = s.cause := rfl
@[simp] theorem State.withFrameValid_crcRx (b : Bool) : (s.withFrameValid b).crcRx = s.crcRx := rfl
@[simp] theorem State.withFrameValid_crcCalc (b : Bool) : (s.withFrameValid b).crcCalc = s.crcCalc := rfl
@[simp] theorem State.withFrameValid_rxFn (b : Bool) : (s.withFrameValid b).rxFn = s.rxFn := rfl
@[simp] theorem State.withFrameValid_rxAddr (b : Bool) : (s.withFrameValid b).rxAddr = s.rxAddr := rfl
@[simp] theorem State.withFrameValid_inFlight (b : Bool) : (s.withFrameValid b).inFlight = s.inFlight := rfl
@[simp] theorem State.withFrameValid_rx (b : Bool) : (s.withFrameValid b).rx = s.rx := rfl
@[simp] theorem State.withFrameValid_rxEnd (b : Bool) : (s.withFrameValid b).rxEnd = s.rxEnd := rfl
@[simp] theorem State.withFrameValid_tx (b : Bool) : (s.withFrameValid b).tx = s.tx := rfl
@[simp] theorem State.withFrameValid_writeAnswers (b : Bool) : (s.withFrameValid b).writeAnswers = s.writeAnswers := rfl
@[simp] theorem State.withFrameValid_inbox (b : Bool) : (s.withFrameValid b).inbox = s.inbox := rfl
@[simp] theorem State.withFrameValid_reply (b : Bool) : (s.withFrameValid b).reply = s.reply := rfl
@[simp] theorem State.withFrameValid_draws (b : Bool) : (s.withFrameValid b).draws = s.draws := rfl

/-! ### dropFrame -/

@[simp] theorem State.dropFrame_acc : (s.dropFrame).acc = s.acc := rfl
@[simp] theorem State.dropFrame_txb : (s.dropFrame).txb = s.txb := rfl
@[simp] theorem State.dropFrame_txlen : (s.dropFrame).txlen = s.txlen := rfl
@[simp] theorem State.dropFrame_rxb : (s.dropFrame).rxb = freeRxBuf s.draws := rfl
@[simp] theorem State.dropFrame_rxlen : (s.dropFrame).rxlen = freeRxlen s.draws := rfl
@[simp] theorem State.dropFrame_rxfValid : (s.dropFrame).rxfValid = false := rfl
@[simp] theorem State.dropFrame_phase : (s.dropFrame).phase = s.phase := rfl
@[simp] theorem State.dropFrame_targetValid : (s.dropFrame).targetValid = s.targetValid := rfl
@[simp] theorem State.dropFrame_target : (s.dropFrame).target = s.target := rfl
@[simp] theorem State.dropFrame_discValid : (s.dropFrame).discValid = s.discValid := rfl
@[simp] theorem State.dropFrame_disc : (s.dropFrame).disc = s.disc := rfl
@[simp] theorem State.dropFrame_outcome : (s.dropFrame).outcome = s.outcome := rfl
@[simp] theorem State.dropFrame_cause : (s.dropFrame).cause = s.cause := rfl
@[simp] theorem State.dropFrame_crcRx : (s.dropFrame).crcRx = s.crcRx := rfl
@[simp] theorem State.dropFrame_crcCalc : (s.dropFrame).crcCalc = s.crcCalc := rfl
@[simp] theorem State.dropFrame_rxFn : (s.dropFrame).rxFn = s.rxFn := rfl
@[simp] theorem State.dropFrame_rxAddr : (s.dropFrame).rxAddr = s.rxAddr := rfl
@[simp] theorem State.dropFrame_inFlight : (s.dropFrame).inFlight = s.inFlight := rfl
@[simp] theorem State.dropFrame_rx : (s.dropFrame).rx = s.rx := rfl
@[simp] theorem State.dropFrame_rxEnd : (s.dropFrame).rxEnd = s.rxEnd := rfl
@[simp] theorem State.dropFrame_tx : (s.dropFrame).tx = s.tx := rfl
@[simp] theorem State.dropFrame_writeAnswers : (s.dropFrame).writeAnswers = s.writeAnswers := rfl
@[simp] theorem State.dropFrame_inbox : (s.dropFrame).inbox = s.inbox := rfl
@[simp] theorem State.dropFrame_reply : (s.dropFrame).reply = s.reply := rfl
@[simp] theorem State.dropFrame_draws : (s.dropFrame).draws = s.draws + 1 := rfl

/-! ### enter -/

@[simp] theorem State.enter_acc (p : Phase) : (s.enter p).acc = s.acc := rfl
@[simp] theorem State.enter_txb (p : Phase) : (s.enter p).txb = s.txb := rfl
@[simp] theorem State.enter_txlen (p : Phase) : (s.enter p).txlen = s.txlen := rfl
@[simp] theorem State.enter_rxb (p : Phase) : (s.enter p).rxb = s.rxb := rfl
@[simp] theorem State.enter_rxlen (p : Phase) : (s.enter p).rxlen = s.rxlen := rfl
@[simp] theorem State.enter_rxfValid (p : Phase) : (s.enter p).rxfValid = s.rxfValid := rfl
@[simp] theorem State.enter_phase (p : Phase) : (s.enter p).phase = p := rfl
@[simp] theorem State.enter_targetValid (p : Phase) : (s.enter p).targetValid = s.targetValid := rfl
@[simp] theorem State.enter_target (p : Phase) : (s.enter p).target = s.target := rfl
@[simp] theorem State.enter_discValid (p : Phase) : (s.enter p).discValid = s.discValid := rfl
@[simp] theorem State.enter_disc (p : Phase) : (s.enter p).disc = s.disc := rfl
@[simp] theorem State.enter_outcome (p : Phase) : (s.enter p).outcome = s.outcome := rfl
@[simp] theorem State.enter_cause (p : Phase) : (s.enter p).cause = s.cause := rfl
@[simp] theorem State.enter_crcRx (p : Phase) : (s.enter p).crcRx = s.crcRx := rfl
@[simp] theorem State.enter_crcCalc (p : Phase) : (s.enter p).crcCalc = s.crcCalc := rfl
@[simp] theorem State.enter_rxFn (p : Phase) : (s.enter p).rxFn = s.rxFn := rfl
@[simp] theorem State.enter_rxAddr (p : Phase) : (s.enter p).rxAddr = s.rxAddr := rfl
@[simp] theorem State.enter_inFlight (p : Phase) : (s.enter p).inFlight = s.inFlight := rfl
@[simp] theorem State.enter_rx (p : Phase) : (s.enter p).rx = s.rx := rfl
@[simp] theorem State.enter_rxEnd (p : Phase) : (s.enter p).rxEnd = s.rxEnd := rfl
@[simp] theorem State.enter_tx (p : Phase) : (s.enter p).tx = s.tx := rfl
@[simp] theorem State.enter_writeAnswers (p : Phase) : (s.enter p).writeAnswers = s.writeAnswers := rfl
@[simp] theorem State.enter_inbox (p : Phase) : (s.enter p).inbox = s.inbox := rfl
@[simp] theorem State.enter_reply (p : Phase) : (s.enter p).reply = s.reply := rfl
@[simp] theorem State.enter_draws (p : Phase) : (s.enter p).draws = s.draws := rfl

/-! ### discover -/

@[simp] theorem State.discover_acc (a : Word) : (s.discover a).acc = s.acc := rfl
@[simp] theorem State.discover_txb (a : Word) : (s.discover a).txb = s.txb := rfl
@[simp] theorem State.discover_txlen (a : Word) : (s.discover a).txlen = s.txlen := rfl
@[simp] theorem State.discover_rxb (a : Word) : (s.discover a).rxb = s.rxb := rfl
@[simp] theorem State.discover_rxlen (a : Word) : (s.discover a).rxlen = s.rxlen := rfl
@[simp] theorem State.discover_rxfValid (a : Word) : (s.discover a).rxfValid = s.rxfValid := rfl
@[simp] theorem State.discover_phase (a : Word) : (s.discover a).phase = s.phase := rfl
@[simp] theorem State.discover_targetValid (a : Word) : (s.discover a).targetValid = s.targetValid := rfl
@[simp] theorem State.discover_target (a : Word) : (s.discover a).target = s.target := rfl
@[simp] theorem State.discover_discValid (a : Word) : (s.discover a).discValid = true := rfl
@[simp] theorem State.discover_disc (a : Word) : (s.discover a).disc = a := rfl
@[simp] theorem State.discover_outcome (a : Word) : (s.discover a).outcome = s.outcome := rfl
@[simp] theorem State.discover_cause (a : Word) : (s.discover a).cause = s.cause := rfl
@[simp] theorem State.discover_crcRx (a : Word) : (s.discover a).crcRx = s.crcRx := rfl
@[simp] theorem State.discover_crcCalc (a : Word) : (s.discover a).crcCalc = s.crcCalc := rfl
@[simp] theorem State.discover_rxFn (a : Word) : (s.discover a).rxFn = s.rxFn := rfl
@[simp] theorem State.discover_rxAddr (a : Word) : (s.discover a).rxAddr = s.rxAddr := rfl
@[simp] theorem State.discover_inFlight (a : Word) : (s.discover a).inFlight = s.inFlight := rfl
@[simp] theorem State.discover_rx (a : Word) : (s.discover a).rx = s.rx := rfl
@[simp] theorem State.discover_rxEnd (a : Word) : (s.discover a).rxEnd = s.rxEnd := rfl
@[simp] theorem State.discover_tx (a : Word) : (s.discover a).tx = s.tx := rfl
@[simp] theorem State.discover_writeAnswers (a : Word) : (s.discover a).writeAnswers = s.writeAnswers := rfl
@[simp] theorem State.discover_inbox (a : Word) : (s.discover a).inbox = s.inbox := rfl
@[simp] theorem State.discover_reply (a : Word) : (s.discover a).reply = s.reply := rfl
@[simp] theorem State.discover_draws (a : Word) : (s.discover a).draws = s.draws := rfl

/-! ### recordFunction -/

@[simp] theorem State.recordFunction_acc (fn : Byte) : (s.recordFunction fn).acc = s.acc := rfl
@[simp] theorem State.recordFunction_txb (fn : Byte) : (s.recordFunction fn).txb = s.txb := rfl
@[simp] theorem State.recordFunction_txlen (fn : Byte) : (s.recordFunction fn).txlen = s.txlen := rfl
@[simp] theorem State.recordFunction_rxb (fn : Byte) : (s.recordFunction fn).rxb = s.rxb := rfl
@[simp] theorem State.recordFunction_rxlen (fn : Byte) : (s.recordFunction fn).rxlen = s.rxlen := rfl
@[simp] theorem State.recordFunction_rxfValid (fn : Byte) : (s.recordFunction fn).rxfValid = s.rxfValid := rfl
@[simp] theorem State.recordFunction_phase (fn : Byte) : (s.recordFunction fn).phase = s.phase := rfl
@[simp] theorem State.recordFunction_targetValid (fn : Byte) : (s.recordFunction fn).targetValid = s.targetValid := rfl
@[simp] theorem State.recordFunction_target (fn : Byte) : (s.recordFunction fn).target = s.target := rfl
@[simp] theorem State.recordFunction_discValid (fn : Byte) : (s.recordFunction fn).discValid = s.discValid := rfl
@[simp] theorem State.recordFunction_disc (fn : Byte) : (s.recordFunction fn).disc = s.disc := rfl
@[simp] theorem State.recordFunction_outcome (fn : Byte) : (s.recordFunction fn).outcome = s.outcome := rfl
@[simp] theorem State.recordFunction_cause (fn : Byte) : (s.recordFunction fn).cause = s.cause := rfl
@[simp] theorem State.recordFunction_crcRx (fn : Byte) : (s.recordFunction fn).crcRx = s.crcRx := rfl
@[simp] theorem State.recordFunction_crcCalc (fn : Byte) : (s.recordFunction fn).crcCalc = s.crcCalc := rfl
@[simp] theorem State.recordFunction_rxFn (fn : Byte) : (s.recordFunction fn).rxFn = fn := rfl
@[simp] theorem State.recordFunction_rxAddr (fn : Byte) : (s.recordFunction fn).rxAddr = s.rxAddr := rfl
@[simp] theorem State.recordFunction_inFlight (fn : Byte) : (s.recordFunction fn).inFlight = s.inFlight := rfl
@[simp] theorem State.recordFunction_rx (fn : Byte) : (s.recordFunction fn).rx = s.rx := rfl
@[simp] theorem State.recordFunction_rxEnd (fn : Byte) : (s.recordFunction fn).rxEnd = s.rxEnd := rfl
@[simp] theorem State.recordFunction_tx (fn : Byte) : (s.recordFunction fn).tx = s.tx := rfl
@[simp] theorem State.recordFunction_writeAnswers (fn : Byte) : (s.recordFunction fn).writeAnswers = s.writeAnswers := rfl
@[simp] theorem State.recordFunction_inbox (fn : Byte) : (s.recordFunction fn).inbox = s.inbox := rfl
@[simp] theorem State.recordFunction_reply (fn : Byte) : (s.recordFunction fn).reply = s.reply := rfl
@[simp] theorem State.recordFunction_draws (fn : Byte) : (s.recordFunction fn).draws = s.draws := rfl

/-! ### recordAddress -/

@[simp] theorem State.recordAddress_acc (a : Word) : (s.recordAddress a).acc = s.acc := rfl
@[simp] theorem State.recordAddress_txb (a : Word) : (s.recordAddress a).txb = s.txb := rfl
@[simp] theorem State.recordAddress_txlen (a : Word) : (s.recordAddress a).txlen = s.txlen := rfl
@[simp] theorem State.recordAddress_rxb (a : Word) : (s.recordAddress a).rxb = s.rxb := rfl
@[simp] theorem State.recordAddress_rxlen (a : Word) : (s.recordAddress a).rxlen = s.rxlen := rfl
@[simp] theorem State.recordAddress_rxfValid (a : Word) : (s.recordAddress a).rxfValid = s.rxfValid := rfl
@[simp] theorem State.recordAddress_phase (a : Word) : (s.recordAddress a).phase = s.phase := rfl
@[simp] theorem State.recordAddress_targetValid (a : Word) : (s.recordAddress a).targetValid = s.targetValid := rfl
@[simp] theorem State.recordAddress_target (a : Word) : (s.recordAddress a).target = s.target := rfl
@[simp] theorem State.recordAddress_discValid (a : Word) : (s.recordAddress a).discValid = s.discValid := rfl
@[simp] theorem State.recordAddress_disc (a : Word) : (s.recordAddress a).disc = s.disc := rfl
@[simp] theorem State.recordAddress_outcome (a : Word) : (s.recordAddress a).outcome = s.outcome := rfl
@[simp] theorem State.recordAddress_cause (a : Word) : (s.recordAddress a).cause = s.cause := rfl
@[simp] theorem State.recordAddress_crcRx (a : Word) : (s.recordAddress a).crcRx = s.crcRx := rfl
@[simp] theorem State.recordAddress_crcCalc (a : Word) : (s.recordAddress a).crcCalc = s.crcCalc := rfl
@[simp] theorem State.recordAddress_rxFn (a : Word) : (s.recordAddress a).rxFn = s.rxFn := rfl
@[simp] theorem State.recordAddress_rxAddr (a : Word) : (s.recordAddress a).rxAddr = a := rfl
@[simp] theorem State.recordAddress_inFlight (a : Word) : (s.recordAddress a).inFlight = s.inFlight := rfl
@[simp] theorem State.recordAddress_rx (a : Word) : (s.recordAddress a).rx = s.rx := rfl
@[simp] theorem State.recordAddress_rxEnd (a : Word) : (s.recordAddress a).rxEnd = s.rxEnd := rfl
@[simp] theorem State.recordAddress_tx (a : Word) : (s.recordAddress a).tx = s.tx := rfl
@[simp] theorem State.recordAddress_writeAnswers (a : Word) : (s.recordAddress a).writeAnswers = s.writeAnswers := rfl
@[simp] theorem State.recordAddress_inbox (a : Word) : (s.recordAddress a).inbox = s.inbox := rfl
@[simp] theorem State.recordAddress_reply (a : Word) : (s.recordAddress a).reply = s.reply := rfl
@[simp] theorem State.recordAddress_draws (a : Word) : (s.recordAddress a).draws = s.draws := rfl

/-! ### recordChecksums -/

@[simp] theorem State.recordChecksums_acc (r c : Word) : (s.recordChecksums r c).acc = s.acc := rfl
@[simp] theorem State.recordChecksums_txb (r c : Word) : (s.recordChecksums r c).txb = s.txb := rfl
@[simp] theorem State.recordChecksums_txlen (r c : Word) : (s.recordChecksums r c).txlen = s.txlen := rfl
@[simp] theorem State.recordChecksums_rxb (r c : Word) : (s.recordChecksums r c).rxb = s.rxb := rfl
@[simp] theorem State.recordChecksums_rxlen (r c : Word) : (s.recordChecksums r c).rxlen = s.rxlen := rfl
@[simp] theorem State.recordChecksums_rxfValid (r c : Word) : (s.recordChecksums r c).rxfValid = s.rxfValid := rfl
@[simp] theorem State.recordChecksums_phase (r c : Word) : (s.recordChecksums r c).phase = s.phase := rfl
@[simp] theorem State.recordChecksums_targetValid (r c : Word) : (s.recordChecksums r c).targetValid = s.targetValid := rfl
@[simp] theorem State.recordChecksums_target (r c : Word) : (s.recordChecksums r c).target = s.target := rfl
@[simp] theorem State.recordChecksums_discValid (r c : Word) : (s.recordChecksums r c).discValid = s.discValid := rfl
@[simp] theorem State.recordChecksums_disc (r c : Word) : (s.recordChecksums r c).disc = s.disc := rfl
@[simp] theorem State.recordChecksums_outcome (r c : Word) : (s.recordChecksums r c).outcome = s.outcome := rfl
@[simp] theorem State.recordChecksums_cause (r c : Word) : (s.recordChecksums r c).cause = s.cause := rfl
@[simp] theorem State.recordChecksums_crcRx (r c : Word) : (s.recordChecksums r c).crcRx = r := rfl
@[simp] theorem State.recordChecksums_crcCalc (r c : Word) : (s.recordChecksums r c).crcCalc = c := rfl
@[simp] theorem State.recordChecksums_rxFn (r c : Word) : (s.recordChecksums r c).rxFn = s.rxFn := rfl
@[simp] theorem State.recordChecksums_rxAddr (r c : Word) : (s.recordChecksums r c).rxAddr = s.rxAddr := rfl
@[simp] theorem State.recordChecksums_inFlight (r c : Word) : (s.recordChecksums r c).inFlight = s.inFlight := rfl
@[simp] theorem State.recordChecksums_rx (r c : Word) : (s.recordChecksums r c).rx = s.rx := rfl
@[simp] theorem State.recordChecksums_rxEnd (r c : Word) : (s.recordChecksums r c).rxEnd = s.rxEnd := rfl
@[simp] theorem State.recordChecksums_tx (r c : Word) : (s.recordChecksums r c).tx = s.tx := rfl
@[simp] theorem State.recordChecksums_writeAnswers (r c : Word) : (s.recordChecksums r c).writeAnswers = s.writeAnswers := rfl
@[simp] theorem State.recordChecksums_inbox (r c : Word) : (s.recordChecksums r c).inbox = s.inbox := rfl
@[simp] theorem State.recordChecksums_reply (r c : Word) : (s.recordChecksums r c).reply = s.reply := rfl
@[simp] theorem State.recordChecksums_draws (r c : Word) : (s.recordChecksums r c).draws = s.draws := rfl

/-! ### endRun -/

@[simp] theorem State.endRun_acc (o : OutcomeCode) (c : Cause) : (s.endRun o c).acc = s.acc := rfl
@[simp] theorem State.endRun_txb (o : OutcomeCode) (c : Cause) : (s.endRun o c).txb = s.txb := rfl
@[simp] theorem State.endRun_txlen (o : OutcomeCode) (c : Cause) : (s.endRun o c).txlen = s.txlen := rfl
@[simp] theorem State.endRun_rxb (o : OutcomeCode) (c : Cause) : (s.endRun o c).rxb = s.rxb := rfl
@[simp] theorem State.endRun_rxlen (o : OutcomeCode) (c : Cause) : (s.endRun o c).rxlen = s.rxlen := rfl
@[simp] theorem State.endRun_rxfValid (o : OutcomeCode) (c : Cause) : (s.endRun o c).rxfValid = s.rxfValid := rfl
@[simp] theorem State.endRun_phase (o : OutcomeCode) (c : Cause) : (s.endRun o c).phase = .done := rfl
@[simp] theorem State.endRun_targetValid (o : OutcomeCode) (c : Cause) : (s.endRun o c).targetValid = s.targetValid := rfl
@[simp] theorem State.endRun_target (o : OutcomeCode) (c : Cause) : (s.endRun o c).target = s.target := rfl
@[simp] theorem State.endRun_discValid (o : OutcomeCode) (c : Cause) : (s.endRun o c).discValid = s.discValid := rfl
@[simp] theorem State.endRun_disc (o : OutcomeCode) (c : Cause) : (s.endRun o c).disc = s.disc := rfl
@[simp] theorem State.endRun_outcome (o : OutcomeCode) (c : Cause) : (s.endRun o c).outcome = o := rfl
@[simp] theorem State.endRun_cause (o : OutcomeCode) (c : Cause) : (s.endRun o c).cause = c := rfl
@[simp] theorem State.endRun_crcRx (o : OutcomeCode) (c : Cause) : (s.endRun o c).crcRx = s.crcRx := rfl
@[simp] theorem State.endRun_crcCalc (o : OutcomeCode) (c : Cause) : (s.endRun o c).crcCalc = s.crcCalc := rfl
@[simp] theorem State.endRun_rxFn (o : OutcomeCode) (c : Cause) : (s.endRun o c).rxFn = s.rxFn := rfl
@[simp] theorem State.endRun_rxAddr (o : OutcomeCode) (c : Cause) : (s.endRun o c).rxAddr = s.rxAddr := rfl
@[simp] theorem State.endRun_inFlight (o : OutcomeCode) (c : Cause) : (s.endRun o c).inFlight = s.inFlight := rfl
@[simp] theorem State.endRun_rx (o : OutcomeCode) (c : Cause) : (s.endRun o c).rx = s.rx := rfl
@[simp] theorem State.endRun_rxEnd (o : OutcomeCode) (c : Cause) : (s.endRun o c).rxEnd = s.rxEnd := rfl
@[simp] theorem State.endRun_tx (o : OutcomeCode) (c : Cause) : (s.endRun o c).tx = s.tx := rfl
@[simp] theorem State.endRun_writeAnswers (o : OutcomeCode) (c : Cause) : (s.endRun o c).writeAnswers = s.writeAnswers := rfl
@[simp] theorem State.endRun_inbox (o : OutcomeCode) (c : Cause) : (s.endRun o c).inbox = s.inbox := rfl
@[simp] theorem State.endRun_reply (o : OutcomeCode) (c : Cause) : (s.endRun o c).reply = s.reply := rfl
@[simp] theorem State.endRun_draws (o : OutcomeCode) (c : Cause) : (s.endRun o c).draws = s.draws := rfl

end Sys2Proof.Machine
end

