-- ==== Sys2Proof/Laws/Port.lean ====
section
/-! SUPPORT. What the two calls of the Transport Port can do, said once (spec/20_memory.md R66, R67, R70 to R72). -/

namespace Sys2Proof.Machine

theorem memRead_enough {s : State} {n : Nat} (h : n ≤ s.rx.length) :
    s.memRead n = .got (s.rx.take n) { s with rx := s.rx.drop n, inFlight := none } := by
  simp only [State.memRead, if_pos h]; rfl

theorem memRead_closes {s : State} {n : Nat} (h : s.rx.length < n) (he : s.rxEnd = .closes) :
    s.memRead n = .short
      { s with rx := s.rx.drop (Config.rxResidueTaken s.draws), inFlight := none, draws := s.draws + 1 } := by
  rw [State.memRead, if_neg (Nat.not_le.mpr h)]
  split
  · rfl
  · rename_i h'; rw [he] at h'; contradiction

theorem memRead_stalls {s : State} {n : Nat} (h : s.rx.length < n) (he : s.rxEnd = .stalls) :
    s.memRead n = .held { s with inFlight := some (.read n) } := by
  rw [State.memRead, if_neg (Nat.not_le.mpr h)]
  split
  · rename_i h'; rw [he] at h'; contradiction
  · rfl

theorem memWrite_ok {s : State} {v : List Byte} {as : List WriteAnswer} (h : s.writeAnswers = .ok :: as) :
    s.memWrite v = .ok { s with tx := s.tx ++ v, writeAnswers := as, inFlight := none } := by
  simp only [State.memWrite, h]; rfl

theorem memWrite_failed {s : State} {v : List Byte} {as : List WriteAnswer} (h : s.writeAnswers = .writeError :: as) :
    s.memWrite v = .failed
      { s with tx := s.tx ++ v.take (Config.txPartial s.draws % v.length), writeAnswers := as, inFlight := none,
               draws := s.draws + 1 } := by
  simp only [State.memWrite, h]; rfl

theorem memWrite_held {s : State} {v : List Byte} (h : s.writeAnswers = []) :
    s.memWrite v = .held { s with inFlight := some (.write v.length) } := by
  rw [State.memWrite]
  split
  · rename_i h'; rw [h] at h'; contradiction
  · rename_i h'; rw [h] at h'; contradiction
  · rfl

/-- What a failed write sends is a proper initial part of the string (R72). -/
theorem partial_length_lt {v : List Byte} (hv : v ≠ []) (n : Nat) : (v.take (n % v.length)).length < v.length := by
  have : 0 < v.length := List.length_pos_iff.mpr hv
  rw [List.length_take]
  have := Nat.mod_lt n this
  omega

/-- `ENCODE` reads back the bytes it was given (spec/10_state.md R24). -/
theorem txBytes_putTx (s : State) {bs : List Byte} (h : bs.length ≤ 11) : (s.putTx bs).txBytes = bs := by
  have hl : (BitVec.ofNat 4 bs.length).toNat = bs.length := by
    rw [BitVec.toNat_ofNat]; omega
  simp only [State.txBytes, State.putTx_txb, State.putTx_txlen, hl]
  match bs, h with
  | [], _ => rfl
  | [_], _ => rfl
  | [_, _], _ => rfl
  | [_, _, _], _ => rfl
  | [_, _, _, _], _ => rfl
  | [_, _, _, _, _], _ => rfl
  | [_, _, _, _, _, _], _ => rfl
  | [_, _, _, _, _, _, _], _ => rfl
  | [_, _, _, _, _, _, _, _], _ => rfl
  | [_, _, _, _, _, _, _, _, _], _ => rfl
  | [_, _, _, _, _, _, _, _, _, _], _ => rfl
  | [_, _, _, _, _, _, _, _, _, _, _], _ => rfl
  | _ :: _ :: _ :: _ :: _ :: _ :: _ :: _ :: _ :: _ :: _ :: _ :: l, h => simp at h; omega

end Sys2Proof.Machine
end

