-- ==== Sys2Proof/Laws/Codec.lean ====
section
/-! SUPPORT. Everything a `DECODE` can do, said once: it ends as the RX stream says, and it changes the stream, `RXB`, `RXLEN`,
`RXF_VALID`, `ACC`, the call in flight and nothing else. -/

namespace Sys2Proof.Machine

/-- What a `DECODE` that ends with a value leaves in the registers. -/
structure FrameHeld (t : State) (f : Frame) : Prop where
  view : t.frameView = f
  kind : (t.rxlen = 7#4 ∧ t.rxb.b3 = Config.fnRequest) ∨ (t.rxlen = 8#4 ∧ t.rxb.b3 = Config.fnWrite)
  checked : t.rxChecksum = crc16 t.rxCovered

/-- The legal values of `RXLEN` (spec/10_state.md R25). -/
def LegalRxlen (l : BitVec 4) : Prop := l = 0#4 ∨ l = 7#4 ∨ l = 8#4

theorem freeRxlen_legal (n : Nat) : LegalRxlen (freeRxlen n) := by
  unfold freeRxlen LegalRxlen
  match Config.freeRxlen n with
  | 0 => simp
  | 1 => simp
  | 2 => simp

/-- How the registers follow the stream: the frame is held, or nothing is and the bytes are gone, or the block waits for the
first 7 bytes or for the one more of a WRITE frame. -/
def Follows (s : State) : StreamEnd → DecodeEnd → Prop
  | .frame f rest, d =>
    ∃ b l a, d = .frame f { s with rx := rest, rxb := b, rxlen := l, rxfValid := true, acc := a, inFlight := none } ∧
      FrameHeld { s with rx := rest, rxb := b, rxlen := l, rxfValid := true, acc := a, inFlight := none } f
  | .error e rest, d =>
    ∃ b l a n, LegalRxlen l ∧
      d = .error e { s with rx := rest, rxb := b, rxlen := l, rxfValid := false, acc := a, inFlight := none, draws := n }
  | .short, d =>
    ∃ b l rest n, LegalRxlen l ∧ rest <:+ s.rx ∧
      d = .error .shortRead
        { s with rx := rest, rxb := b, rxlen := l, rxfValid := false, inFlight := none, draws := n }
  | .held, d =>
    (s.rx.length < 7 ∧ d = .held { s with rxfValid := false, inFlight := some (.read 7) }) ∨
    ∃ b, b.b3 = Config.fnWrite ∧ s.rx = b.toList.take 7 ∧
      d = .held { s with rx := [], rxb := b, rxlen := 7#4, rxfValid := false, inFlight := some (.read 1) }

theorem decodeFailed_eq (s : State) (e : DecodeError) :
    s.decodeFailed e = .error e { s with rxfValid := false, rxb := freeRxBuf s.draws, rxlen := freeRxlen s.draws,
                                         draws := s.draws + 1 } := rfl

theorem decodeCompare_eq (s : State) :
    s.decodeCompare =
      if s.rxChecksum = crc16 s.rxCovered then
        .frame s.frameView { s with acc := crc16 s.rxCovered, rxfValid := true }
      else .error (.checksumMismatch s.rxChecksum (crc16 s.rxCovered))
        { s with acc := crc16 s.rxCovered, rxfValid := false, rxb := freeRxBuf s.draws, rxlen := freeRxlen s.draws,
                 draws := s.draws + 1 } := rfl

theorem seven_bytes {l : List Byte} (h : ¬ l.length < 7) :
    ∃ b0 b1 b2 b3 b4 b5 b6 rest, l = b0 :: b1 :: b2 :: b3 :: b4 :: b5 :: b6 :: rest := by
  match l, h with
  | b0 :: b1 :: b2 :: b3 :: b4 :: b5 :: b6 :: rest, _ => exact ⟨b0, b1, b2, b3, b4, b5, b6, rest, rfl⟩
  | [], h => simp at h
  | [_], h => simp at h
  | [_, _], h => simp at h
  | [_, _, _], h => simp at h
  | [_, _, _, _], h => simp at h
  | [_, _, _, _, _], h => simp at h
  | [_, _, _, _, _, _], h => simp at h

theorem decodeStream_runsOut {l : List Byte} (h : l.length < 7) (e : RxEnd) : decodeStream l e = runsOut e := by
  match l, h with
  | [], _ => rfl
  | [_], _ => rfl
  | [_, _], _ => rfl
  | [_, _, _], _ => rfl
  | [_, _, _, _], _ => rfl
  | [_, _, _, _, _], _ => rfl
  | [_, _, _, _, _, _], _ => rfl
  | _ :: _ :: _ :: _ :: _ :: _ :: _ :: l, h => simp at h; omega

/-- The stream of one IDENT frame. -/
theorem decodeStream_ident (start : Byte) (addr : Word) (da : Byte) (c : Word) (tail : List Byte) (e : RxEnd) :
    decodeStream (frameBytes start addr Config.fnRequest da [] c ++ tail) e =
      if c = crc16 [start, loByte addr, hiByte addr, Config.fnRequest, da] then
        .frame ⟨start, addr, Config.fnRequest, da, [], c⟩ tail
      else .error (.checksumMismatch c (crc16 [start, loByte addr, hiByte addr, Config.fnRequest, da])) tail := by
  simp [frameBytes, headerBytes, checksumBytes, decodeStream, compareFrame]

/-- The stream of one CONFIRM frame. -/
theorem decodeStream_confirm (start : Byte) (addr : Word) (da p : Byte) (c : Word) (tail : List Byte) (e : RxEnd) :
    decodeStream (frameBytes start addr Config.fnWrite da [p] c ++ tail) e =
      if c = crc16 [start, loByte addr, hiByte addr, Config.fnWrite, da, p] then
        .frame ⟨start, addr, Config.fnWrite, da, [p], c⟩ tail
      else .error (.checksumMismatch c (crc16 [start, loByte addr, hiByte addr, Config.fnWrite, da, p])) tail := by
  simp [frameBytes, headerBytes, checksumBytes, decodeStream, compareFrame,
    show Config.fnWrite ≠ Config.fnRequest by decide]

/-- The stream of one frame that is not admitted. -/
theorem decodeStream_other {fn : Byte} (h4 : fn ≠ Config.fnRequest) (h2 : fn ≠ Config.fnWrite) (start : Byte) (addr : Word)
    (da : Byte) (pl : List Byte) (c : Word) (tail : List Byte) (e : RxEnd) :
    decodeStream (frameBytes start addr fn da pl c ++ tail) e =
      .error (.unexpectedFunction fn) ((pl ++ [loByte c, hiByte c]).drop 2 ++ tail) := by
  obtain _ | ⟨x, _ | ⟨y, pl⟩⟩ := pl <;>
    simp [frameBytes, headerBytes, checksumBytes, decodeStream, h4, h2]

/-- The comparison on a frame of 7 bytes (spec/41_codec.md R168). -/
theorem decodeCompare_seven {t : State} {b0 b1 b2 b3 b4 b5 b6 b7 : Byte} (hb : t.rxb = ⟨b0, b1, b2, b3, b4, b5, b6, b7⟩)
    (hl : t.rxlen = 7#4) :
    t.decodeCompare =
      if le16 b5 b6 = crc16 [b0, b1, b2, b3, b4] then
        .frame ⟨b0, le16 b1 b2, b3, b4, [], le16 b5 b6⟩ { t with acc := crc16 [b0, b1, b2, b3, b4], rxfValid := true }
      else .error (.checksumMismatch (le16 b5 b6) (crc16 [b0, b1, b2, b3, b4]))
        { t with acc := crc16 [b0, b1, b2, b3, b4], rxfValid := false, rxb := freeRxBuf t.draws,
                 rxlen := freeRxlen t.draws, draws := t.draws + 1 } := by
  rw [decodeCompare_eq]
  simp [State.frameView, State.rxChecksum, State.rxCovered, State.rxBytes, hb, hl, RxBuf.toList, Config.checksumLength,
    Config.headerLength]

/-- The comparison on a frame of 8 bytes (R168). -/
theorem decodeCompare_eight {t : State} {b0 b1 b2 b3 b4 b5 b6 b7 : Byte} (hb : t.rxb = ⟨b0, b1, b2, b3, b4, b5, b6, b7⟩)
    (hl : t.rxlen = 8#4) :
    t.decodeCompare =
      if le16 b6 b7 = crc16 [b0, b1, b2, b3, b4, b5] then
        .frame ⟨b0, le16 b1 b2, b3, b4, [b5], le16 b6 b7⟩
          { t with acc := crc16 [b0, b1, b2, b3, b4, b5], rxfValid := true }
      else .error (.checksumMismatch (le16 b6 b7) (crc16 [b0, b1, b2, b3, b4, b5]))
        { t with acc := crc16 [b0, b1, b2, b3, b4, b5], rxfValid := false, rxb := freeRxBuf t.draws,
                 rxlen := freeRxlen t.draws, draws := t.draws + 1 } := by
  rw [decodeCompare_eq]
  simp [State.frameView, State.rxChecksum, State.rxCovered, State.rxBytes, hb, hl, RxBuf.toList, Config.checksumLength,
    Config.headerLength]

/-- The first read of 7 bytes (R165). -/
theorem decodeFirst_got {s : State} {b0 b1 b2 b3 b4 b5 b6 : Byte} {rest : List Byte}
    (h : s.rx = b0 :: b1 :: b2 :: b3 :: b4 :: b5 :: b6 :: rest) :
    s.decodeFirst =
      State.decodeFunction { s with rxfValid := false, rx := rest, inFlight := none, rxlen := 7#4,
                                    rxb := ⟨b0, b1, b2, b3, b4, b5, b6, s.rxb.b7⟩ } := by
  have hn : Config.minFrameLen ≤ (s.withFrameValid false).rx.length := by simp [h, Config.minFrameLen]
  rw [State.decodeFirst, memRead_enough hn]
  simp [h, Config.minFrameLen, State.withFrameValid, State.putRx, RxBuf.loadFirst]

/-- The extra read, from any state (R167). -/
theorem decodeExtra_got {s : State} {x : Byte} {rest : List Byte} (h : s.rx = x :: rest) :
    s.decodeExtra =
      State.decodeCompare { s with rx := rest, inFlight := none, rxlen := 8#4,
                                   rxb := ⟨s.rxb.b0, s.rxb.b1, s.rxb.b2, s.rxb.b3, s.rxb.b4, s.rxb.b5, s.rxb.b6, x⟩ } := by
  have hn : Config.extraWrite ≤ s.rx.length := by simp [h, Config.extraWrite]
  rw [State.decodeExtra, memRead_enough hn]
  simp [h, Config.extraWrite, State.putRxExtra, RxBuf.loadExtra]

theorem decodeExtra_closes {s : State} (h : s.rx = []) (he : s.rxEnd = .closes) :
    s.decodeExtra = .error .shortRead
      { s with rx := [], inFlight := none, rxfValid := false, rxb := freeRxBuf (s.draws + 1),
               rxlen := freeRxlen (s.draws + 1), draws := s.draws + 1 + 1 } := by
  have hn : s.rx.length < Config.extraWrite := by simp [h, Config.extraWrite]
  rw [State.decodeExtra, memRead_closes hn he]
  simp [h, decodeFailed_eq]

theorem decodeExtra_stalls {s : State} (h : s.rx = []) (he : s.rxEnd = .stalls) :
    s.decodeExtra = .held { s with inFlight := some (.read 1) } := by
  have hn : s.rx.length < Config.extraWrite := by simp [h, Config.extraWrite]
  rw [State.decodeExtra, memRead_stalls hn he]; rfl

/-- The extra read follows the stream that began with the 7 bytes in `RXB` (R167, R173). -/
theorem decodeExtra_follows {s t : State} {b0 b1 b2 b3 b4 b5 b6 b7 : Byte} {rest : List Byte} (h3 : b3 = Config.fnWrite)
    (hs : s.rx = b0 :: b1 :: b2 :: b3 :: b4 :: b5 :: b6 :: rest)
    (ht : t = { s with rxfValid := false, rx := rest, inFlight := t.inFlight, rxlen := 7#4,
                       rxb := ⟨b0, b1, b2, b3, b4, b5, b6, b7⟩ }) :
    Follows s (decodeStream s.rx s.rxEnd) t.decodeExtra := by
  have hr : b3 ≠ Config.fnRequest := by rw [h3]; decide
  have hx : t.rx = rest := by rw [ht]
  have hend : t.rxEnd = s.rxEnd := by rw [ht]
  cases rest with
  | cons x rest =>
    rw [decodeExtra_got hx, decodeCompare_eight rfl rfl]
    simp only [hs, decodeStream, if_neg hr, if_pos h3, compareFrame, List.cons_append, List.nil_append]
    rw [ht]
    split
    · rename_i heq
      exact ⟨⟨b0, b1, b2, b3, b4, b5, b6, x⟩, 8#4, crc16 [b0, b1, b2, b3, b4, b5], rfl, rfl, .inr ⟨rfl, h3⟩, heq⟩
    · exact ⟨_, _, _, _, freeRxlen_legal s.draws, rfl⟩
  | nil =>
    have hd : decodeStream s.rx s.rxEnd = runsOut s.rxEnd := by
      simp only [hs, decodeStream, if_neg hr, if_pos h3]
    rw [hd]
    cases he : s.rxEnd with
    | closes =>
      rw [decodeExtra_closes hx (hend.trans he), ht]
      exact ⟨_, _, [], _, freeRxlen_legal (s.draws + 1), List.nil_suffix, rfl⟩
    | stalls =>
      rw [decodeExtra_stalls hx (hend.trans he), ht]
      exact .inr ⟨⟨b0, b1, b2, b3, b4, b5, b6, b7⟩, h3, hs, rfl⟩

/-- `DECODE` from its beginning follows the stream (R164). -/
theorem decodeFirst_follows (s : State) : Follows s (decodeStream s.rx s.rxEnd) s.decodeFirst := by
  by_cases h7 : s.rx.length < 7
  · rw [decodeStream_runsOut h7]
    cases he : s.rxEnd with
    | closes =>
      rw [State.decodeFirst, memRead_closes (s := s.withFrameValid false) (n := Config.minFrameLen) h7 he]
      exact ⟨_, _, _, _, freeRxlen_legal _, List.drop_suffix _ _, rfl⟩
    | stalls =>
      rw [State.decodeFirst, memRead_stalls (s := s.withFrameValid false) (n := Config.minFrameLen) h7 he]
      exact .inl ⟨h7, rfl⟩
  · obtain ⟨b0, b1, b2, b3, b4, b5, b6, rest, hs⟩ := seven_bytes h7
    rw [decodeFirst_got hs, State.decodeFunction]
    by_cases h4 : b3 = Config.fnRequest
    · subst h4
      simp only [extra_request, hs, decodeStream, if_true, compareFrame, List.append_nil]
      rw [decodeCompare_seven rfl rfl]
      split
      · rename_i heq
        exact ⟨⟨b0, b1, b2, Config.fnRequest, b4, b5, b6, s.rxb.b7⟩, 7#4, crc16 [b0, b1, b2, Config.fnRequest, b4],
          rfl, rfl, .inl ⟨rfl, rfl⟩, heq⟩
      · exact ⟨_, _, _, _, freeRxlen_legal s.draws, rfl⟩
    · by_cases h2 : b3 = Config.fnWrite
      · subst h2
        simp only [extra_write]
        exact decodeExtra_follows rfl hs rfl
      · simp only [extra_none h4 h2, hs, decodeStream, if_neg h4, if_neg h2]
        exact ⟨_, _, _, _, freeRxlen_legal s.draws, rfl⟩

/-- Not held at its second read, `DECODE` begins with the first. -/
theorem decodeRun_first {s : State} (h : s.inFlight ≠ some (.read 1)) : s.decodeRun = s.decodeFirst := by
  rw [State.decodeRun, if_neg (show s.inFlight ≠ some (.read Config.extraWrite) from h)]

/-- Held there, it goes on there. -/
theorem decodeRun_extra {s : State} (h : s.inFlight = some (.read 1)) : s.decodeRun = s.decodeExtra := by
  rw [State.decodeRun, if_pos (show s.inFlight = some (.read Config.extraWrite) from h)]

/-- Cut after the 7 bytes of a WRITE frame, on a stream that stalls, `DECODE` is held at its second read (R167, R173). -/
theorem decodeRun_cut {s : State} {b0 b1 b2 b4 b5 b6 : Byte} (hi : s.inFlight ≠ some (.read 1)) (he : s.rxEnd = .stalls)
    (hs : s.rx = [b0, b1, b2, Config.fnWrite, b4, b5, b6]) :
    s.decodeRun = .held { s with rxfValid := false, rx := [], inFlight := some (.read 1), rxlen := 7#4,
                                 rxb := ⟨b0, b1, b2, Config.fnWrite, b4, b5, b6, s.rxb.b7⟩ } := by
  rw [decodeRun_first hi, decodeFirst_got hs, State.decodeFunction]
  simp only [extra_write]
  rw [decodeExtra_stalls (s := { s with rxfValid := false, rx := [], inFlight := none, rxlen := 7#4,
                                        rxb := ⟨b0, b1, b2, Config.fnWrite, b4, b5, b6, s.rxb.b7⟩ }) rfl he]

/-- Taken up there it is the `DECODE` that had all the bytes from the start (R173). -/
theorem decodeRun_cut_resumes {s : State} {b0 b1 b2 b4 b5 b6 x : Byte} {more : List Byte} (hi : s.inFlight = none)
    (hs : s.rx = b0 :: b1 :: b2 :: Config.fnWrite :: b4 :: b5 :: b6 :: x :: more) :
    State.decodeRun { s with rxfValid := false, rx := x :: more, inFlight := some (.read 1), rxlen := 7#4,
                             rxb := ⟨b0, b1, b2, Config.fnWrite, b4, b5, b6, s.rxb.b7⟩ } = s.decodeRun := by
  rw [decodeRun_first (s := s) (by rw [hi]; simp), decodeFirst_got hs, State.decodeFunction]
  simp only [extra_write]
  rw [decodeRun_extra (s := { s with rxfValid := false, rx := x :: more, inFlight := some (.read 1), rxlen := 7#4,
                                     rxb := ⟨b0, b1, b2, Config.fnWrite, b4, b5, b6, s.rxb.b7⟩ }) rfl]
  exact (decodeExtra_got rfl).trans (decodeExtra_got rfl).symm

/-- The header of the frame that a stream gives is the stream's (spec/10_state.md R26). -/
theorem decodeStream_frame_header {b0 b1 b2 b3 b4 b5 b6 : Byte} {bs rest : List Byte} {x : RxEnd} {f : Frame}
    (h : decodeStream (b0 :: b1 :: b2 :: b3 :: b4 :: b5 :: b6 :: bs) x = .frame f rest) :
    f.start = b0 ∧ f.deviceAddr = le16 b1 b2 ∧ f.function = b3 := by
  simp only [decodeStream, compareFrame] at h
  split at h
  · split at h <;> cases h; exact ⟨rfl, rfl, rfl⟩
  split at h
  · split at h
    · split at h <;> cases h; exact ⟨rfl, rfl, rfl⟩
    · cases x <;> cases h
  · cases h

/-- The function that a stream has refused is its fourth byte (R166). -/
theorem decodeStream_unexpected_function {b0 b1 b2 b3 b4 b5 b6 fn : Byte} {bs rest : List Byte} {x : RxEnd}
    (h : decodeStream (b0 :: b1 :: b2 :: b3 :: b4 :: b5 :: b6 :: bs) x = .error (.unexpectedFunction fn) rest) : fn = b3 := by
  simp only [decodeStream, compareFrame] at h
  split at h
  · split at h <;> cases h
  split at h
  · split at h
    · split at h <;> cases h
    · cases x <;> cases h
  · cases h; rfl

/-- `DECODE` follows the stream unless it is held at its second read (R164, R173). -/
theorem decodeRun_follows {s : State} (h : s.inFlight ≠ some (.read 1)) :
    Follows s (decodeStream s.rx s.rxEnd) s.decodeRun := by
  rw [decodeRun_first h]
  exact decodeFirst_follows s

/-- Held at its second read, `DECODE` goes on there: it follows the stream with the 7 bytes of `RXB` put back (R173). -/
theorem decodeRun_resumes {s : State} (h : s.inFlight = some (.read 1)) (hl : s.rxlen = 7#4)
    (h3 : s.rxb.b3 = Config.fnWrite) (hv : s.rxfValid = false) :
    Follows { s with rx := s.rxb.toList.take 7 ++ s.rx }
      (decodeStream (s.rxb.toList.take 7 ++ s.rx) s.rxEnd)
      s.decodeRun := by
  rw [decodeRun_extra h]
  exact decodeExtra_follows (s := { s with rx := s.rxb.toList.take 7 ++ s.rx }) (b7 := s.rxb.b7) h3 rfl
    (by rw [← hl, ← hv]; rfl)

end Sys2Proof.Machine
end

