-- ==== Sys2Proof/Laws/Crc.lean ====
section
/-! SUPPORT. The steps of the Checksum Engine: the mask is the identity (spec/40_checksum.md R144), each step is linear for XOR and
loses nothing. -/

namespace Sys2Proof.Machine

/-- R144: on 16 bits the mask changes no value. -/
theorem crc_mask (a : Word) : (a >>> 1) &&& 0x7FFF#16 = a >>> 1 := by
  apply BitVec.eq_of_toNat_eq
  have h : a.toNat >>> 1 < 2 ^ 15 := by
    rw [Nat.shiftRight_eq_div_pow]; have := a.isLt; omega
  have e := Nat.and_two_pow_sub_one_of_lt_two_pow h
  simpa using e

theorem crcBit_eq (a : Word) :
    crcBit a = if a.getLsbD 0 then (a >>> 1) ^^^ 0xA001#16 else a >>> 1 := by
  simp only [crcBit, crc_mask, Config.crcPoly]

theorem crcBit_xor (a b : Word) : crcBit (a ^^^ b) = crcBit a ^^^ crcBit b := by
  simp only [crcBit_eq, BitVec.getLsbD_xor, BitVec.ushiftRight_xor_distrib]
  cases a.getLsbD 0 <;> cases b.getLsbD 0 <;> simp only [Bool.xor_false, Bool.xor_true, Bool.not_true, Bool.not_false,
    Bool.false_eq_true, if_true, if_false]
  · ac_rfl
  · ac_rfl
  · rw [show (a >>> 1 ^^^ 0xA001#16) ^^^ (b >>> 1 ^^^ 0xA001#16)
        = (a >>> 1 ^^^ b >>> 1) ^^^ (0xA001#16 ^^^ 0xA001#16) by ac_rfl, BitVec.xor_self, BitVec.xor_zero]

@[simp] theorem crcBit_zero : crcBit 0#16 = 0#16 := by decide

/-- `CRC.BIT` loses nothing: bit 15 of the result is the bit that was shifted out. -/
theorem crcBit_eq_zero {a : Word} (h : crcBit a = 0#16) : a = 0#16 := by
  rw [crcBit_eq] at h
  by_cases h0 : a.getLsbD 0
  · have := congrArg (fun v => BitVec.getLsbD v 15) h
    simp [h0] at this
  · rw [if_neg h0] at h
    apply BitVec.eq_of_getLsbD_eq
    intro i _
    cases i with
    | zero => simpa using h0
    | succ k => simpa [Nat.add_comm] using congrArg (fun v => BitVec.getLsbD v k) h

/-- The eight shifts of `CRC.BYTE`. -/
def crcShift (a : Word) : Word := Nat.repeat crcBit 8 a

theorem crcByte_eq (a : Word) (x : Byte) : crcByte a x = crcShift (a ^^^ x.setWidth 16) := rfl

theorem crcShift_xor (a b : Word) : crcShift (a ^^^ b) = crcShift a ^^^ crcShift b := by
  simp only [crcShift, Nat.repeat, crcBit_xor]

@[simp] theorem crcShift_zero : crcShift 0#16 = 0#16 := by
  simp [crcShift, Nat.repeat]

theorem crcShift_eq_zero {a : Word} (h : crcShift a = 0#16) : a = 0#16 := by
  simp only [crcShift, Nat.repeat] at h
  iterate 8 replace h := crcBit_eq_zero h
  exact h

theorem crcShift_inj {a b : Word} (h : crcShift a = crcShift b) : a = b := by
  have h0 : crcShift (a ^^^ b) = 0#16 := by rw [crcShift_xor, h, BitVec.xor_self]
  exact BitVec.xor_eq_zero_iff.mp (crcShift_eq_zero h0)

/-- Two accumulators that differ stay different whatever byte both absorb. -/
theorem crcByte_inj {a b : Word} {x : Byte} (h : crcByte a x = crcByte b x) : a = b := by
  have := crcShift_inj (by simpa [crcByte_eq] using h)
  simpa using this

end Sys2Proof.Machine
end

