-- ==== Sys2Proof/Laws/Decode.lean ====
section
/-! SUPPORT. The selection of a frame kind (spec/30_encoding.md R102): the inbound kinds look at the function byte only, the
outbound one at all five header bytes. -/

namespace Sys2Proof.Machine

theorem headerNumber_bit {b0 b1 b2 b3 b4 : Byte} {i : Nat} (hi : i < 40) :
    (headerNumber b0 b1 b2 b3 b4).getLsbD i =
      ([b0, b1, b2, b3, b4].getD (i / 8) 0#8).getLsbD (i % 8) := by
  unfold headerNumber
  obtain h | h | h | h | h : i / 8 = 0 ∨ i / 8 = 1 ∨ i / 8 = 2 ∨ i / 8 = 3 ∨ i / 8 = 4 := by omega
  · have e : i % 8 = i := by omega
    simp [h, e, show i < 8 by omega, show i < 16 by omega, show i < 24 by omega, show i < 32 by omega, hi]
  · have e : i % 8 = i - 8 := by omega
    simp [h, e, show ¬i < 8 by omega, show i < 16 by omega, show i < 24 by omega, show i < 32 by omega, hi,
      BitVec.getLsbD_of_ge b0 i (by omega)]
  · have e : i % 8 = i - 16 := by omega
    simp [h, e, show ¬i < 8 by omega, show ¬i < 16 by omega, show i < 24 by omega, show i < 32 by omega, hi,
      BitVec.getLsbD_of_ge b0 i (by omega), BitVec.getLsbD_of_ge b1 (i - 8) (by omega)]
  · have e : i % 8 = i - 24 := by omega
    simp [h, e, show ¬i < 8 by omega, show ¬i < 16 by omega, show ¬i < 24 by omega, show i < 32 by omega, hi,
      BitVec.getLsbD_of_ge b0 i (by omega), BitVec.getLsbD_of_ge b1 (i - 8) (by omega),
      BitVec.getLsbD_of_ge b2 (i - 16) (by omega)]
  · have e : i % 8 = i - 32 := by omega
    simp [h, e, show ¬i < 8 by omega, show ¬i < 16 by omega, show ¬i < 24 by omega, show ¬i < 32 by omega, hi,
      BitVec.getLsbD_of_ge b0 i (by omega), BitVec.getLsbD_of_ge b1 (i - 8) (by omega),
      BitVec.getLsbD_of_ge b2 (i - 16) (by omega), BitVec.getLsbD_of_ge b3 (i - 24) (by omega)]

/-- The header number holds the five bytes, each in its place. -/
theorem headerNumber_inj {b0 b1 b2 b3 b4 c0 c1 c2 c3 c4 : Byte}
    (h : headerNumber b0 b1 b2 b3 b4 = headerNumber c0 c1 c2 c3 c4) :
    b0 = c0 ∧ b1 = c1 ∧ b2 = c2 ∧ b3 = c3 ∧ b4 = c4 := by
  have key : ∀ k : Nat, k < 5 → ∀ j : Nat, j < 8 →
      ([b0, b1, b2, b3, b4].getD k 0#8).getLsbD j = ([c0, c1, c2, c3, c4].getD k 0#8).getLsbD j := by
    intro k hk j hj
    have := congrArg (fun v => BitVec.getLsbD v (8 * k + j)) h
    simp only [headerNumber_bit (show 8 * k + j < 40 by omega)] at this
    rwa [show (8 * k + j) / 8 = k by omega, show (8 * k + j) % 8 = j by omega] at this
  exact ⟨BitVec.eq_of_getLsbD_eq (key 0 (by omega)), BitVec.eq_of_getLsbD_eq (key 1 (by omega)),
    BitVec.eq_of_getLsbD_eq (key 2 (by omega)), BitVec.eq_of_getLsbD_eq (key 3 (by omega)),
    BitVec.eq_of_getLsbD_eq (key 4 (by omega))⟩

theorem functionMask_header (b0 b1 b2 b3 b4 : Byte) :
    headerNumber b0 b1 b2 b3 b4 &&& 0x00FF000000#40 = headerNumber 0#8 0#8 0#8 b3 0#8 := by
  apply BitVec.eq_of_getLsbD_eq
  intro i hi
  have hm : (0x00FF000000#40).getLsbD i = decide (i / 8 = 3) := by interval_cases i <;> rfl
  rw [BitVec.getLsbD_and, headerNumber_bit hi, headerNumber_bit hi, hm]
  obtain h | h | h | h | h : i / 8 = 0 ∨ i / 8 = 1 ∨ i / 8 = 2 ∨ i / 8 = 3 ∨ i / 8 = 4 := by omega
  all_goals simp [h]

/-- A row that looks at the function byte selects the frames that have its code there. -/
theorem functionRow_selects {r : KindRow} {v : Byte} (hm : r.mask = 0x00FF000000#40)
    (hv : r.value = headerNumber 0#8 0#8 0#8 v 0#8) (b0 b1 b2 b3 b4 : Byte) :
    r.selects (headerNumber b0 b1 b2 b3 b4) = decide (b3 = v) := by
  unfold KindRow.selects
  rw [hm, hv, functionMask_header]
  congr 1
  exact propext ⟨fun h => (headerNumber_inj h).2.2.2.1, fun h => by rw [h]⟩

theorem identRow_selects (b0 b1 b2 b3 b4 : Byte) :
    identRow.selects (headerNumber b0 b1 b2 b3 b4) = decide (b3 = Config.fnRequest) :=
  functionRow_selects rfl rfl ..

theorem confirmRow_selects (b0 b1 b2 b3 b4 : Byte) :
    confirmRow.selects (headerNumber b0 b1 b2 b3 b4) = decide (b3 = Config.fnWrite) :=
  functionRow_selects rfl rfl ..

theorem frameReadRow_selects (b0 b1 b2 b3 b4 : Byte) :
    frameReadRow.selects (headerNumber b0 b1 b2 b3 b4) = decide (b3 = Config.fnRead) :=
  functionRow_selects rfl rfl ..

theorem frameControlRow_selects (b0 b1 b2 b3 b4 : Byte) :
    frameControlRow.selects (headerNumber b0 b1 b2 b3 b4) = decide (b3 = Config.fnControl) :=
  functionRow_selects rfl rfl ..

/-- The outbound row selects one header. -/
theorem setAddrRow_selects (b0 b1 b2 b3 b4 : Byte) :
    setAddrRow.selects (headerNumber b0 b1 b2 b3 b4) =
      decide (b0 = 0x55#8 ∧ b1 = 0x00#8 ∧ b2 = 0x00#8 ∧ b3 = 0x02#8 ∧ b4 = 0x00#8) := by
  unfold KindRow.selects
  have hm : headerNumber b0 b1 b2 b3 b4 &&& setAddrRow.mask = headerNumber b0 b1 b2 b3 b4 :=
    BitVec.and_allOnes
  have hv : setAddrRow.value = headerNumber 0x55#8 0x00#8 0x00#8 0x02#8 0x00#8 := rfl
  rw [hm, hv]
  congr 1
  exact propext ⟨headerNumber_inj, fun ⟨h0, h1, h2, h3, h4⟩ => by rw [h0, h1, h2, h3, h4]⟩

/-- A payload and two checksum bytes are told apart by their number. -/
theorem splitTail_eq {pl : List Byte} (c d : Byte) (h : pl.length ≤ 4) :
    splitTail (pl ++ [c, d]) = some (pl, le16 c d) := by
  unfold splitTail
  simp [Config.checksumLength, Config.maxPayload, h]

theorem splitTail_some {tail pl : List Byte} {c : Word} (h : splitTail tail = some (pl, c)) :
    tail = pl ++ [loByte c, hiByte c] := by
  unfold splitTail at h
  split at h
  · rename_i c' d' hd
    split at h
    · simp at h
      obtain ⟨rfl, rfl⟩ := h
      rw [lo_le16, hi_le16, ← hd, Config.checksumLength, List.take_append_drop]
    · simp at h
  · simp at h

end Sys2Proof.Machine
end

