-- ==== Sys2Proof/Laws/Run.lean ====
section
/-! SUPPORT. A run, one step at a time, and a run that is over. -/

namespace Sys2Proof.Machine

theorem core_run_succ (M : Host.Core) (k : Nat) (s : M.State) :
    M.run (k + 1) s = match M.step s with
      | .next s' => M.run k s'
      | .fault r => .fault r
      | .refused r => .refused r := rfl

/-- A run goes on from where its first step leads. -/
theorem run_next {s t : State} (h : step s = .next t) (k : Nat) : Sys2Proof.core.run (k + 1) s = Sys2Proof.core.run k t := by
  rw [core_run_succ Sys2Proof.core k s, show Sys2Proof.core.step s = .next t from h]

/-- A run that goes on after `j` steps. -/
theorem run_add {s t : State} {j : Nat} (h : Sys2Proof.core.run j s = .next t) (k : Nat) :
    Sys2Proof.core.run (j + k) s = Sys2Proof.core.run k t := by
  induction j generalizing s with
  | zero => cases h; simp
  | succ j ih =>
    rw [core_run_succ Sys2Proof.core j s] at h
    rw [show j + 1 + k = (j + k) + 1 by omega, core_run_succ Sys2Proof.core (j + k) s]
    cases hs : Sys2Proof.core.step s <;> rw [hs] at h
    · exact ih h
    · cases h
    · cases h

/-- With nothing to come, a run that is over stays so (spec/42_handshake.md R210). -/
theorem run_done {s : State} (hp : s.phase = .done) (hb : s.inbox = []) (hf : s.inFlight = none) (k : Nat) :
    Sys2Proof.core.run k s = .next s := by
  have hs : step s = .next s := by
    have hn : s.nextInput = none := by simp [State.nextInput, hb]
    have hq : s.popInput = s := by cases s; simp_all [State.popInput, State.withInbox]
    simp [step, State.nextCode, hn, hq, hp, decode, decodePhase, Phase.code, Decoded.instr, exec, execDone, State.atRest, hf]
  induction k with
  | zero => rfl
  | succ k ih => rw [run_next hs, ih]

/-- Such a run has been answered (spec/70_reset_and_hazards.md R279). -/
theorem answers_of_done {s u : State} {target : Option Word} {n : Nat}
    (h : Sys2Proof.core.run n (s.openSession target) = .next u) (hp : u.phase = .done) (hb : u.inbox = [])
    (hf : u.inFlight = none) : Answers s target := by
  intro k _ _ _ _
  exact ⟨n, u, by rw [Nat.add_comm, run_add h, run_done hp hb hf], by rw [hf]; simp⟩

end Sys2Proof.Machine
end

