-- ==== Sys2Proof/Laws/Step.lean ====
section
/-! SUPPORT. What a free and a held block are, which move is next, and what a `DECODE` and a step can do, said once. -/

namespace Sys2Proof.Machine

/-- A free block is not busy. -/
@[simp] theorem Free.busy {s : State} (h : Free s) : s.busy = false := h.1

/-- Nor is it held on behalf of HOST. -/
@[simp] theorem Free.hostHeld {s : State} (h : Free s) : s.hostHeld = false := by
  simp [State.hostHeld, h.2]

/-- A run holds nothing on behalf of HOST. -/
theorem hostHeld_of_busy {s : State} (h : s.busy = true) : s.hostHeld = false := by
  simp [State.hostHeld, h]

/-- A call in flight outside a run is HOST's. -/
theorem hostHeld_of_held {s : State} (h : NotBusy s) (hf : s.inFlight ≠ none) : s.hostHeld = true := by
  simp [State.hostHeld, show s.busy = false from h, Option.isSome_iff_ne_none.mpr hf]

/-! ### The environment's next move -/

theorem admits_of_not_hostHeld {s : State} (h : s.hostHeld = false) (i : Input) : s.admits i = true := by
  cases i <;> simp [State.admits, h]

/-- Only a command can wait. -/
theorem admits_of_not_command (s : State) {i : Input} (h : ∀ opsel arg, i ≠ .command opsel arg) : s.admits i = true := by
  cases i <;> first | rfl | exact absurd rfl (h _ _)

theorem nextInput_nil {s : State} (h : s.inbox = []) : s.nextInput = none := by
  simp [State.nextInput, h]

theorem nextInput_cons {s : State} {i : Input} {rest : List Input} (h : s.inbox = i :: rest) (hi : s.admits i = true) :
    s.nextInput = some i ∧ s.popInput = { s with inbox := rest } := by
  simp [State.nextInput, State.popInput, State.withInbox, h, hi]

/-- While a `DECODE` of HOST is held its operations wait and the first other move happens. -/
theorem nextInput_waiting {s : State} {waiting rest : List Input} {i : Input} (hs : s.hostHeld = true)
    (hw : ∀ j ∈ waiting, ∃ opsel arg, j = .command opsel arg) (hi : s.admits i = true) (h : s.inbox = waiting ++ i :: rest) :
    s.nextInput = some i ∧ s.popInput = { s with inbox := waiting ++ rest } := by
  have hn : ∀ j ∈ waiting, ¬ s.admits j = true := by
    intro j hj
    obtain ⟨o, a, rfl⟩ := hw j hj
    simp [State.admits, hs]
  constructor
  · rw [State.nextInput, h, List.find?_append]
    simp [List.find?_eq_none.mpr hn, hi]
  · rw [State.popInput, h, State.withInbox, List.eraseP_append_right _ hn]
    simp [hi]

/-- With no move that can happen the queue stays as it is. -/
theorem popInput_none {s : State} (h : s.nextInput = none) : s.popInput = s := by
  have := List.find?_eq_none.mp h
  rw [State.popInput, List.eraseP_of_forall_not (fun a ha => by simpa using this a ha)]
  rfl

/-- `ENCODE`'s precondition, spelled out (spec/41_codec.md R161, R162). -/
theorem encodable_iff (fn : Byte) (pl : List Byte) :
    encodable fn pl = true ↔ pl.length ≤ 4 ∧ (fn = 1#8 ∨ fn = 2#8 ∨ fn = 3#8 ∨ fn = 4#8) := by
  simp only [encodable, assignedFunction, Bool.and_eq_true, Bool.or_eq_true, decide_eq_true_eq, or_assoc]
  rfl

/-- A built command reads back from `TXB` (spec/42_handshake.md R200). -/
theorem txBytes_build (s : State) (fn : Byte) (addr : Word) (da : Byte) {pl : List Byte} (h : pl.length ≤ 4) :
    (s.build fn addr da pl).txBytes = builtFrame fn addr da pl :=
  txBytes_putTx _ (by simp; omega)

/-- Bytes that start with a frame, or begin one, have its header if they are 7 or more (spec/30_encoding.md R100). -/
theorem StartsWithFrame.header {b0 b1 b2 b3 b4 b5 b6 fn : Byte} {bs pl : List Byte} {addr : Addr} {da : DataAddr}
    (h : StartsWithFrame (b0 :: b1 :: b2 :: b3 :: b4 :: b5 :: b6 :: bs) (builtFrame fn addr da pl)) :
    b0 = 0x55#8 ∧ b1 = loByte addr ∧ b2 = hiByte addr ∧ b3 = fn ∧ b4 = da := by
  have : (b0 :: b1 :: b2 :: b3 :: b4 :: b5 :: b6 :: bs).take 5 = (builtFrame fn addr da pl).take 5 := by
    rcases h with ⟨t, h⟩ | ⟨t, h⟩
    · rw [← h, List.take_append_of_le_length (by simp)]
    · rw [← h, List.take_append_of_le_length (by simp; omega)]
  simpa [builtFrame, frameBytes, headerBytes, Config.startMarker] using this

/-! ### DECODE in the words of the statements -/

/-- A free block is not held at its second read. -/
theorem Free.notExtra {s : State} (h : Free s) : s.inFlight ≠ some (.read 1) := by rw [h.2]; simp

theorem stageFits_of_notExtra {s : State} (h : s.inFlight ≠ some (.read 1)) : StageFits s := fun h1 => absurd h1 h

/-- Not held at its second read, a `DECODE` is about the RX stream. -/
theorem decodeBytes_notExtra {s : State} (h : s.inFlight ≠ some (.read 1)) : s.decodeBytes = s.rx := by
  unfold State.decodeBytes; exact if_neg h

/-- Held there, about the 7 bytes in `RXB` and the RX stream. -/
theorem decodeBytes_extra {s : State} (h : s.inFlight = some (.read 1)) (hl : s.rxlen = 7#4) :
    s.decodeBytes = s.rxb.toList.take 7 ++ s.rx := by
  unfold State.decodeBytes
  rw [if_pos (show s.inFlight = some (.read Config.extraWrite) from h), State.rxBytes, hl]; rfl

/-- Bytes that give a frame. -/
theorem decodeRun_frame {s : State} {f : Frame} {rest : List Byte} (h : StageFits s)
    (hs : decodeStream s.decodeBytes s.rxEnd = .frame f rest) :
    ∃ t, s.decodeRun = .frame f t ∧ Returns s t f rest ∧ FrameHeld t f := by
  by_cases h1 : s.inFlight = some (.read 1)
  · obtain ⟨hl, h3, hv⟩ := h h1
    rw [decodeBytes_extra h1 hl] at hs
    have := decodeRun_resumes h1 hl h3 hv
    rw [hs] at this
    obtain ⟨b, l, a, e, fh⟩ := this
    exact ⟨_, e, ⟨fh.view, rfl⟩, fh⟩
  · rw [decodeBytes_notExtra h1] at hs
    have := decodeRun_follows h1
    rw [hs] at this
    obtain ⟨b, l, a, e, fh⟩ := this
    exact ⟨_, e, ⟨fh.view, rfl⟩, fh⟩

/-- Bytes that give an error. -/
theorem decodeRun_error {s : State} {er : DecodeError} {rest : List Byte} (h : StageFits s)
    (hs : decodeStream s.decodeBytes s.rxEnd = .error er rest) :
    ∃ b l a n, LegalRxlen l ∧ s.decodeRun = .error er
      { s with rx := rest, rxb := b, rxlen := l, rxfValid := false, acc := a, inFlight := none, draws := n } := by
  by_cases h1 : s.inFlight = some (.read 1)
  · obtain ⟨hl, h3, hv⟩ := h h1
    rw [decodeBytes_extra h1 hl] at hs
    have := decodeRun_resumes h1 hl h3 hv
    rwa [hs] at this
  · rw [decodeBytes_notExtra h1] at hs
    have := decodeRun_follows h1
    rwa [hs] at this

theorem RxEnd.closes_or_stalls (e : RxEnd) : e = .closes ∨ e = .stalls := by cases e <;> simp

/-- With a byte there the extra read neither runs out nor is held. -/
theorem decodeExtra_not_short {s : State} {x : Byte} {more : List Byte} (hx : s.rx = x :: more) :
    (∀ t, s.decodeExtra ≠ .error .shortRead t) ∧ ∀ t, s.decodeExtra ≠ .held t := by
  rw [decodeExtra_got hx, decodeCompare_eq]
  constructor <;> intro t h <;> split at h <;> cases h

/-- Bytes too few for the frame they begin, on a channel that closes. -/
theorem decodeRun_short {s : State} (h : StageFits s) (hs : decodeStream s.decodeBytes s.rxEnd = .short) :
    ∃ b l rest n, LegalRxlen l ∧ rest <:+ s.rx ∧ s.decodeRun = .error .shortRead
      { s with rx := rest, rxb := b, rxlen := l, rxfValid := false, inFlight := none, draws := n } := by
  by_cases h1 : s.inFlight = some (.read 1)
  · obtain ⟨hl, h3, hv⟩ := h h1
    rw [decodeBytes_extra h1 hl] at hs
    have hF := decodeRun_resumes h1 hl h3 hv
    rw [hs, decodeRun_extra h1] at hF
    obtain ⟨_, _, _, _, -, -, e⟩ := hF
    rw [decodeRun_extra h1]
    cases hx : s.rx with
    | cons x more => exact absurd e ((decodeExtra_not_short hx).1 _)
    | nil =>
      obtain he | he := s.rxEnd.closes_or_stalls
      · exact ⟨_, _, [], _, freeRxlen_legal _, List.nil_suffix, decodeExtra_closes hx he⟩
      · rw [decodeExtra_stalls hx he] at e; cases e
  · rw [decodeBytes_notExtra h1] at hs
    have := decodeRun_follows h1
    rwa [hs] at this

/-- The same on one that stalls: held, and at the second read held as before. -/
theorem decodeRun_held {s : State} (h : StageFits s) (hs : decodeStream s.decodeBytes s.rxEnd = .held) :
    ∃ t, s.decodeRun = .held t ∧ HeldReading s t ∧ (s.inFlight = some (.read 1) → t = s) := by
  by_cases h1 : s.inFlight = some (.read 1)
  · obtain ⟨hl, h3, hv⟩ := h h1
    have hb := decodeBytes_extra h1 hl
    rw [hb] at hs
    have hF := decodeRun_resumes h1 hl h3 hv
    rw [hs, decodeRun_extra h1] at hF
    have hh : ∃ t, s.decodeExtra = .held t := by
      rcases hF with ⟨-, e⟩ | ⟨b, -, -, e⟩ <;> exact ⟨_, e⟩
    obtain ⟨t, e⟩ := hh
    rw [decodeRun_extra h1]
    cases hx : s.rx with
    | cons x more => exact absurd e ((decodeExtra_not_short hx).2 _)
    | nil =>
      obtain he | he := s.rxEnd.closes_or_stalls
      · rw [decodeExtra_closes hx he] at e; cases e
      · refine ⟨s, ?_, ⟨?_, .inr ⟨h1, hx, ?_, hl, h3⟩⟩, fun _ => rfl⟩
        · rw [decodeExtra_stalls hx he, ← h1]
        · rw [← hv]
        · rw [hb, hx, State.rxBytes, hl, List.append_nil]; rfl
  · rw [decodeBytes_notExtra h1] at hs
    have := decodeRun_follows h1
    rw [hs] at this
    rcases this with ⟨h7, e⟩ | ⟨b, hb, hx, e⟩
    · exact ⟨_, e, ⟨rfl, .inl ⟨rfl, rfl, h7, rfl, rfl⟩⟩, fun hh => absurd hh h1⟩
    · exact ⟨_, e, ⟨rfl, .inr ⟨rfl, rfl, (decodeBytes_notExtra h1).symm ▸ hx.symm, rfl, hb⟩⟩, fun hh => absurd hh h1⟩

/-- What the error of a `DECODE` says (spec/41_codec.md R166, R168). -/
def ErrorFits : DecodeError → Prop
  | .shortRead => True
  | .unexpectedFunction fn => extra fn = none
  | .checksumMismatch received computed => received ≠ computed

theorem compareFrame_fits {start a b fn da c d : Byte} {pl rest rest' : List Byte} {e : DecodeError}
    (h : compareFrame start a b fn da pl c d rest = .error e rest') : ErrorFits e := by
  simp only [compareFrame] at h
  split at h
  · cases h
  · cases h; assumption

theorem decodeStream_fits {bs : List Byte} {x : RxEnd} {e : DecodeError} {rest : List Byte}
    (h : decodeStream bs x = .error e rest) : ErrorFits e := by
  have hr : ∀ y : RxEnd, runsOut y ≠ .error e rest := by intro y; cases y <;> simp [runsOut]
  unfold decodeStream at h
  split at h
  · split at h
    · exact compareFrame_fits h
    · rename_i h4
      split at h
      · split at h
        · exact compareFrame_fits h
        · exact absurd h (hr _)
      · rename_i h2
        cases h
        exact extra_none h4 h2
  · exact absurd h (hr _)

/-- The ways a `DECODE` ends, from its beginning or from its second read. -/
def DecodeLeaves (s : State) : DecodeEnd → Prop
  | .frame f t =>
    ∃ rest b l a, t = { s with rx := rest, rxb := b, rxlen := l, rxfValid := true, acc := a, inFlight := none } ∧
      FrameHeld t f
  | .error e t =>
    ErrorFits e ∧ ∃ rest b l a n, LegalRxlen l ∧
      t = { s with rx := rest, rxb := b, rxlen := l, rxfValid := false, acc := a, inFlight := none, draws := n }
  | .held t =>
    (∃ rest, t = { s with rx := rest, rxfValid := false, inFlight := some (.read 7) }) ∨
    ∃ rest b, b.b3 = Config.fnWrite ∧
      t = { s with rx := rest, rxb := b, rxlen := 7#4, rxfValid := false, inFlight := some (.read 1) }

theorem DecodeLeaves.of_follows {s u : State} {d : DecodeEnd} {x : RxEnd} {bs : List Byte} (hu : u = { s with rx := u.rx })
    (h : Follows u (decodeStream bs x) d) : DecodeLeaves s d := by
  have key : ∀ e : StreamEnd, (∀ er rest, e = .error er rest → ErrorFits er) → Follows u e d → DecodeLeaves s d := by
    intro e he hf
    cases e with
    | frame f rest =>
      obtain ⟨b, l, a, rfl, fh⟩ := hf
      exact ⟨rest, b, l, a, by rw [hu], fh⟩
    | error er rest =>
      obtain ⟨b, l, a, n, hl, rfl⟩ := hf
      exact ⟨he _ _ rfl, rest, b, l, a, n, hl, by rw [hu]⟩
    | short =>
      obtain ⟨b, l, rest, n, hl, -, rfl⟩ := hf
      exact ⟨trivial, rest, b, l, s.acc, n, hl, by rw [hu]⟩
    | held =>
      obtain ⟨-, rfl⟩ | ⟨b, hb, -, rfl⟩ := hf
      · exact .inl ⟨u.rx, by rw [hu]⟩
      · exact .inr ⟨[], b, hb, by rw [hu]⟩
  exact key _ (fun _ _ he => decodeStream_fits he) h

/-- Everything a `DECODE` can do, wherever it stands. -/
theorem decodeRun_cases {s : State} (h : StageFits s) :
    DecodeLeaves s s.decodeRun := by
  by_cases hi : s.inFlight = some (.read 1)
  · obtain ⟨hl, h3, hv⟩ := h hi
    exact .of_follows (u := { s with rx := s.rxb.toList.take 7 ++ s.rx }) rfl (decodeRun_resumes hi hl h3 hv)
  · exact .of_follows (u := s) rfl (decodeRun_follows hi)

/-- A stream too short for the frame it begins. -/
theorem decodeStream_cut {s : State} (h : s.rx.length < 7 ∨ (s.rx.length = 7 ∧ s.rx[3]? = some 2#8)) :
    decodeStream s.rx s.rxEnd = runsOut s.rxEnd := by
  rcases h with h | ⟨h, h3⟩
  · exact decodeStream_runsOut h _
  · obtain ⟨b0, b1, b2, b3, b4, b5, b6, rest, hs⟩ := seven_bytes (l := s.rx) (by omega)
    rw [hs] at h h3 ⊢
    simp at h h3
    subst h; subst h3
    simp [decodeStream, Config.fnRequest, Config.fnWrite]

/-- `DECODE` on behalf of HOST, on a free block. -/
theorem exec_decode_free {s : State} (h : Free s) : exec .decode s = .next (s.withReply .nothing).hostDecode := by
  simp [exec, execDecode, h]

/-! ### Legal states -/

/-- The environment's part of the state, `ACC`, the reply and the counter may be anything in a legal state. -/
theorem Legal.env {s : State} (h : Legal s) (rx : List Byte) (e : RxEnd) (tx : List Byte) (as : List WriteAnswer)
    (is : List Input) (r : Reply) (n : Nat) (a : Word) :
    Legal { s with rx := rx, rxEnd := e, tx := tx, writeAnswers := as, inbox := is, reply := r, draws := n, acc := a } :=
  ⟨h.1, h.2, h.3, h.4, h.5, h.6, h.7, h.8, h.9, h.10, h.11, h.12, h.13, h.14, h.15, h.16, h.17, h.18⟩

/-- Held at the second read, a legal state has the first 7 bytes of a WRITE frame in `RXB` (spec/41_codec.md R173). -/
theorem Legal.second {s : State} (h : Legal s) : StageFits s := by
  intro hf
  have hc := h.call
  rw [State.callFits, hf] at hc
  obtain ⟨hv, -, -, h1 | ⟨-, hl, hb⟩⟩ := hc
  · cases h1
  · exact ⟨hl, hb, hv⟩

/-- Held in its write, a legal block has the command in `TXB` (spec/42_handshake.md R201). -/
theorem Legal.held_write {s : State} (h : Legal s) {n : Nat} (hf : s.inFlight = some (.write n)) :
    n = 10 ∧ s.phase = .buildingWriteCommand ∧ s.txBytes = commandBytes s.target := by
  have hc := h.call
  rwa [State.callFits, hf] at hc

/-! ### BuildingWriteCommand -/

theorem sendBuilt_ok {s : State} {v : List Byte} {as : List WriteAnswer} (hv : s.txBytes = v)
    (ha : s.writeAnswers = .ok :: as) :
    s.sendBuilt = { s with tx := s.tx ++ v, writeAnswers := as, inFlight := none, phase := .awaitConfirm } := by
  rw [State.sendBuilt, hv, memWrite_ok ha]; rfl

theorem sendBuilt_failed {s : State} {v : List Byte} {as : List WriteAnswer} (hv : s.txBytes = v)
    (ha : s.writeAnswers = .writeError :: as) :
    s.sendBuilt = { s with tx := s.tx ++ v.take (Config.txPartial s.draws % v.length), writeAnswers := as,
                           inFlight := none, draws := s.draws + 1, outcome := .writeFailed, cause := .writeError,
                           phase := .done } := by
  rw [State.sendBuilt, hv, memWrite_failed ha]; rfl

theorem sendBuilt_held {s : State} {v : List Byte} (hv : s.txBytes = v) (ha : s.writeAnswers = []) :
    s.sendBuilt = { s with inFlight := some (.write v.length) } := by
  rw [State.sendBuilt, hv, memWrite_held ha]

/-- The command stands built when the write is issued, and building it writes `ACC`, `TXB`, `TXLEN` only. -/
theorem sendCommand_builds {s : State} {t : Word}
    (h : s.inFlight ≠ some (.write 10) ∨ (s.txBytes = commandBytes t ∧ s.txlen = 10#4)) :
    ∃ b a n, s.sendCommand t = State.sendBuilt { s with txb := b, txlen := 10#4, acc := a, draws := n } ∧
      State.txBytes { s with txb := b, txlen := 10#4, acc := a, draws := n } = commandBytes t := by
  rw [State.sendCommand]
  split
  · rename_i hi
    obtain hn | ⟨hb, hl⟩ := h
    · exact absurd hi hn
    · exact ⟨s.txb, s.acc, s.draws, by rw [← hl], by rw [← hl]; exact hb⟩
  · exact ⟨_, _, _, rfl, txBytes_build s Config.fnWrite Config.broadcast Config.writeCmdDataAddr (by simp [commandPayload])⟩

/-! ### What a step can do -/

/-- The code of every phase decodes. -/
theorem decode_phase (p : Phase) : ∃ i, decode (.phase p.code) = .ok i := by
  cases p <;> exact ⟨_, rfl⟩

/-- What one step can do: the step that `PHASE` selects, an operation of HOST, bytes received, or a move of the environment that
is none of these. -/
theorem step_cases (s : State) :
    ((s.nextInput = none ∨ s.nextInput = some .wait) ∧
      ∃ i, decode (.phase s.phase.code) = .ok i ∧ step s = exec i s.popInput) ∨
    (∃ opsel arg, s.nextInput = some (.command opsel arg) ∧ step s = exec (decodeOp opsel arg) s.popInput) ∨
    (∃ bytes, s.nextInput = some (.received bytes) ∧
      step s = match (decodeInbound bytes).instr with
        | some i => exec i s.popInput
        | none => .next (s.popInput.receive bytes)) ∨
    (s.nextInput = some .readResult ∧ step s = .next s.popInput.readResult) ∨
    (s.nextInput = some .reset ∧ step s = .next s.popInput.resetBlock) ∨
    (∃ e, s.nextInput = some (.channel e) ∧ step s = .next (s.popInput.withRxEnd e)) ∨
    (∃ a, s.nextInput = some (.writeAnswer a) ∧ step s = .next (s.popInput.withAnswers (s.writeAnswers ++ [a]))) := by
  obtain ⟨i, hi⟩ := decode_phase s.phase
  match h : s.nextInput with
  | none => exact .inl ⟨.inl rfl, i, hi, by simp [step, State.nextCode, h, hi, Decoded.instr]⟩
  | some .wait => exact .inl ⟨.inr rfl, i, hi, by simp [step, State.nextCode, h, hi, Decoded.instr]⟩
  | some (.command opsel arg) =>
    exact .inr (.inl ⟨opsel, arg, rfl, by simp [step, State.nextCode, h, decode, Decoded.instr]⟩)
  | some (.received bytes) =>
    refine .inr (.inr (.inl ⟨bytes, rfl, ?_⟩))
    simp only [step, State.nextCode, h, decode, Option.bind_some]
    split <;> simp_all [State.stepInput, State.takeInput]
  | some .readResult =>
    exact .inr (.inr (.inr (.inl ⟨rfl, by simp [step, State.nextCode, h, State.stepInput, State.takeInput]⟩)))
  | some .reset =>
    exact .inr (.inr (.inr (.inr (.inl ⟨rfl, by simp [step, State.nextCode, h, State.stepInput, State.takeInput]⟩))))
  | some (.channel e) =>
    exact .inr (.inr (.inr (.inr (.inr (.inl ⟨e, rfl, by
      simp [step, State.nextCode, h, State.stepInput, State.takeInput]⟩)))))
  | some (.writeAnswer a) =>
    exact .inr (.inr (.inr (.inr (.inr (.inr ⟨a, rfl, by
      simp [step, State.nextCode, h, State.stepInput, State.takeInput, State.popInput]⟩)))))

end Sys2Proof.Machine
end

