-- ==== Sys2Proof/Tests/Slice0.lean ====
section
/-! SUPPORT. The model's own tests.
Expected values are those of spec/95_test_vectors.md, cited as `V<n>`, or are written out from the encoding tables of
spec/30_encoding.md and spec/10_state.md; none is the model's own answer.
After them one witness for each statement's hypotheses. -/

namespace Sys2Proof.Tests

open Sys2Proof Sys2Proof.Machine

-- One theorem at a time: each waits for the kernel, and each that waits holds a thread and its stack.
set_option Elab.async false

/-! ### Helpers -/

/-- A state in a phase, with a stream before it and the target of the vectors. -/
def stateAt (p : Phase) (bytes : List Byte) (e : RxEnd) : State :=
  { State.reset with phase := p, rx := bytes, rxEnd := e, targetValid := true, target := 0x2000#16 }

/-- What `look` shows of the state an instruction leads to. -/
def after {α : Type} (i : Instr) (s : State) (look : State → α) : Option α :=
  match exec i s with
  | .next t => some (look t)
  | .fault _ => none
  | .refused _ => none

/-- The same for one step of the machine. -/
def afterStep {α : Type} (s : State) (look : State → α) : Option α :=
  match step s with
  | .next t => some (look t)
  | .fault _ => none
  | .refused _ => none

/-- A `DECODE` of HOST is held at its first read. -/
def heldHost : State :=
  { State.reset with rx := [0x55#8, 0x34#8], rxEnd := .stalls, inFlight := some (.read 7) }

def ident1234 : List Byte := [0x55#8, 0x34#8, 0x12#8, 0x04#8, 0x00#8, 0x84#8, 0xF9#8]

def ident0000 : List Byte := [0x55#8, 0x00#8, 0x00#8, 0x04#8, 0x00#8, 0x2A#8, 0xCC#8]

def confirm2000 : List Byte := [0x55#8, 0x00#8, 0x20#8, 0x02#8, 0x00#8, 0x02#8, 0x27#8, 0xDF#8]

def confirm1234 : List Byte := [0x55#8, 0x34#8, 0x12#8, 0x02#8, 0x00#8, 0x02#8, 0x98#8, 0xA3#8]

def command2000 : List Byte :=
  [0x55#8, 0x00#8, 0x00#8, 0x02#8, 0x00#8, 0x02#8, 0x00#8, 0x20#8, 0x5C#8, 0xD0#8]

/-- Held at the second read of `AwaitIdent`. -/
def heldIdent : State :=
  { stateAt .awaitIdent [] .stalls with
    inFlight := some (.read 1), rxlen := 7#4, rxb := RxBuf.loadFirst (freeRxBuf 0) (confirm2000.take 7) }

/-- Held at the second read of `AwaitConfirm`. -/
def heldSecond : State :=
  { stateAt .awaitConfirm [] .stalls with
    inFlight := some (.read 1), rxlen := 7#4, rxb := RxBuf.loadFirst (freeRxBuf 0) (confirm2000.take 7), discValid := true,
    txlen := 10#4, txb := TxBuf.load (freeTxBuf 0) command2000 }

/-- Held on behalf of HOST at the second read. -/
def heldHostSecond : State :=
  { State.reset with inFlight := some (.read 1), rxlen := 7#4, rxb := RxBuf.loadFirst (freeRxBuf 0) (confirm2000.take 7) }

/-! ### Well-formed terms -/

/-- R100: a payload of 4 bytes is a frame's, one of 5 is not. -/
theorem test_frameRead_payload_bound :
    (Instr.frameRead 0x55#8 1#16 0#8 [1#8, 2#8, 3#8, 4#8] 0#16).wellFormed = true ∧
    (Instr.frameRead 0x55#8 1#16 0#8 [1#8, 2#8, 3#8, 4#8, 5#8] 0#16).wellFormed = false := by decide

theorem test_frameControl_payload_bound :
    (Instr.frameControl 0x55#8 1#16 0#8 [1#8, 2#8, 3#8, 4#8] 0#16).wellFormed = true ∧
    (Instr.frameControl 0x55#8 1#16 0#8 [1#8, 2#8, 3#8, 4#8, 5#8] 0#16).wellFormed = false := by decide

/-- R105, V19: the command carries the checksum of its bytes; any other is not the frame the block sends. -/
theorem test_setAddr_checksum_fixed :
    (Instr.setAddr 0x2000#16 0xD05C#16).wellFormed = true ∧
    (Instr.setAddr 0x2000#16 0xD05D#16).wellFormed = false := by decide +kernel

/-! ### Decoding words written out from the encodings -/

/-- R121: `00`, `01`, `10`, `11`. -/
theorem test_decode_opsel :
    decode (.op 0b00#2 { bytes := [0x31#8, 0x32#8] }) = .ok (.crc16 [0x31#8, 0x32#8]) ∧
    decode (.op 0b01#2 { bytes := [0x02#8], fn := 2#8, addr := 0xABCD#16, da := 7#8 }) =
      .ok (.encode 2#8 0xABCD#16 7#8 [0x02#8]) ∧
    decode (.op 0b10#2 { bytes := [0xFF#8] }) = .ok .decode ∧
    decode (.op 0b11#2 { target := some 0x2000#16 }) = .ok (.hsStart (some 0x2000#16)) ∧
    decode (.op 0b11#2 {}) = .ok (.hsStart none) := by decide

/-- R27: the six codes of `PHASE`, and the two that are none. -/
theorem test_decode_phase :
    decode (.phase 0b000#3) = .ok .idle ∧ decode (.phase 0b001#3) = .ok .awaitIdent ∧
    decode (.phase 0b010#3) = .ok .identFound ∧ decode (.phase 0b011#3) = .ok .buildingWriteCommand ∧
    decode (.phase 0b100#3) = .ok .awaitConfirm ∧ decode (.phase 0b101#3) = .ok .done ∧
    decode (.phase 0b110#3) = .rejected (.unassignedPhase 6#3) ∧
    decode (.phase 0b111#3) = .rejected (.unassignedPhase 7#3) := by decide

/-- R101, R103, bit by bit: `ssssssss aaaaaaaa AAAAAAAA 00000100 dddddddd cccccccc CCCCCCCC`. -/
theorem test_decode_ident_bits :
    decode (.frame .inbound [0b01010101#8, 0b00110100#8, 0b00010010#8, 0b00000100#8, 0b00000111#8, 0b10000100#8, 0b11111001#8]) =
      .ok (.ident 0x55#8 0x1234#16 0x07#8 0xF984#16) := by decide

/-- R104, bit by bit: `ssssssss aaaaaaaa AAAAAAAA 00000010 dddddddd pppppppp cccccccc CCCCCCCC`. -/
theorem test_decode_confirm_bits :
    decode (.frame .inbound
        [0b01010101#8, 0b00000000#8, 0b00100000#8, 0b00000010#8, 0b10000000#8, 0b00000011#8, 0b00100111#8, 0b11011111#8]) =
      .ok (.confirm 0x55#8 0x2000#16 0x80#8 0x03#8 0xDF27#16) := by decide

/-- R105, bit by bit: 40 fixed header bits, the length byte, `qqqqqqqq rrrrrrrr cccccccc CCCCCCCC`. -/
theorem test_decode_setAddr_bits :
    decode (.frame .outbound
        [0b01010101#8, 0b00000000#8, 0b00000000#8, 0b00000010#8, 0b00000000#8, 0b00000010#8, 0b00110100#8, 0b00010010#8,
         0b11001011#8, 0b11000101#8]) = .ok (.setAddr 0x1234#16 0xC5CB#16) ∧
    decode (.frame .outbound
        [0b01010101#8, 0b00000000#8, 0b00000000#8, 0b00000010#8, 0b00000001#8, 0b00000010#8, 0b00110100#8, 0b00010010#8,
         0b11001011#8, 0b11000101#8]) = .rejected .notTheCommand := by decide

/-- R114, V25, V29, bit by bit: function `00000001` and `00000011`. -/
theorem test_decode_read_control_bits :
    decode (.frame .inbound
        [0b01010101#8, 0b10101011#8, 0b00000000#8, 0b00000001#8, 0b00010000#8, 0b00000001#8, 0b10110100#8, 0b00000110#8]) =
      .ok (.frameRead 0x55#8 0x00AB#16 0x10#8 [0x01#8] 0x06B4#16) ∧
    decode (.frame .inbound
        [0b01010101#8, 0b00110100#8, 0b00010010#8, 0b00000011#8, 0b00000000#8, 0b10000110#8, 0b11001001#8]) =
      .ok (.frameControl 0x55#8 0x1234#16 0x00#8 [] 0xC986#16) := by decide

/-- R113, R100: an unassigned function, a frame that is too short, a WRITE frame of the wrong length. -/
theorem test_decode_rejects :
    decode (.frame .inbound [0x55#8, 0x34#8, 0x12#8, 0x05#8, 0x00#8, 0x85#8, 0x69#8]) = .rejected (.unassignedFunction 5#8) ∧
    decode (.frame .inbound [0x55#8, 0x34#8, 0x12#8, 0x04#8]) = .rejected (.shortFrame 4) ∧
    decode (.frame .inbound [0x55#8, 0x00#8, 0x20#8, 0x02#8, 0x00#8, 0x28#8, 0xA6#8]) = .rejected (.wrongLength 2#8 7) := by
  decide

/-- spec/opcode_table.json: words of the rows, numbered from the least significant bit of the first byte. -/
theorem test_tableWord :
    decodeTableWord 8 0b01 = some (.encode 0#8 0#16 0#8 []) ∧ decodeTableWord 3 0b101 = some .done ∧
    decodeTableWord 40 0x0004000000 = some (.ident 0#8 0#16 0#8 0#16) ∧
    decodeTableWord 80 0xD05C2000020002000055 = some (.setAddr 0x2000#16 0xD05C#16) ∧
    decodeTableWord 40 0x0005000000 = none := by decide

/-! ### One step of each instruction -/

/-- V4, V9. -/
theorem test_crc16_values :
    after (.crc16 [0x55#8]) State.reset State.reply = some (.crc 0x7F7F#16) ∧
    after (.crc16 [0x31#8, 0x32#8, 0x33#8, 0x34#8, 0x35#8, 0x36#8, 0x37#8, 0x38#8, 0x39#8]) State.reset State.reply =
      some (.crc 0x4B37#16) := by decide +kernel

/-- V1, V7: no byte leaves the initial value, and the number of zero bytes matters; R173: while a `DECODE` of HOST is held the
block does nothing else, and HOST's operation waits. -/
theorem test_crc16_corners :
    after (.crc16 []) State.reset State.reply = some (.crc 0xFFFF#16) ∧
    after (.crc16 [0x00#8, 0x00#8]) State.reset State.reply = some (.crc 0xB001#16) ∧
    after (.crc16 []) heldHost (fun t => (t.reply, t.inFlight, t.inbox)) =
      some (.nothing, some (.read 7), [.command 0b00#2 {}]) := by decide +kernel

/-- V26: 11 bytes, the maximum. -/
theorem test_encode_longest :
    after (.encode 4#8 0x1234#16 0#8 [1#8, 2#8, 3#8, 4#8]) State.reset (fun t => (t.txBytes, t.txlen)) =
      some ([0x55#8, 0x34#8, 0x12#8, 0x04#8, 0x00#8, 0x01#8, 0x02#8, 0x03#8, 0x04#8, 0x59#8, 0xCE#8], 11#4) := by
  decide +kernel

/-- V27: refused, `TXLEN` unchanged. -/
theorem test_encode_refused :
    after (.encode 4#8 0x1234#16 0#8 [1#8, 2#8, 3#8, 4#8, 5#8]) State.reset (fun t => (t.reply, t.txlen)) =
      some (.refused .encodePrecondition, 0#4) ∧
    after (.encode 5#8 0x1234#16 0#8 []) State.reset (fun t => (t.reply, t.txlen)) =
      some (.refused .encodePrecondition, 0#4) := by decide +kernel

/-- V31: a WRITE frame, its tail left alone. -/
theorem test_decode_write_frame :
    after .decode (stateAt .idle (confirm2000 ++ [0x55#8]) .closes) (fun t => (t.reply, t.rx, t.rxfValid)) =
      some (.frame ⟨0x55#8, 0x2000#16, 2#8, 0#8, [0x02#8], 0xDF27#16⟩, [0x55#8], true) := by decide +kernel

/-- V38: one bit of the checksum's high byte is wrong. -/
theorem test_decode_mismatch :
    after .decode (stateAt .idle [0x55#8, 0x34#8, 0x12#8, 0x04#8, 0x00#8, 0x84#8, 0xF8#8] .closes)
      (fun t => (t.reply, t.rx, t.rxfValid)) =
      some (.error (.checksumMismatch 0xF884#16 0xF984#16), [], false) := by decide +kernel

/-- V41. -/
theorem test_hsStart :
    after (.hsStart (some 0x2000#16)) State.reset (fun t => (t.phase, t.targetValid, t.target, t.discValid)) =
      some (.awaitIdent, true, 0x2000#16, false) ∧
    after (.hsStart (some 0x2000#16)) State.reset (fun t => (t.outcome, t.cause, t.rxfValid, t.txlen)) =
      some (.none, .none, false, 0#4) := by decide

/-- V48: refused during a run, and nothing changes. -/
theorem test_hsStart_busy :
    after (.hsStart (some 0x3000#16)) (stateAt .awaitIdent [] .stalls) (fun t => (t.reply, t.phase, t.target)) =
      some (.refused .busy, .awaitIdent, 0x2000#16) := by decide

/-- R194: at rest. -/
theorem test_idle :
    after .idle (stateAt .idle ident1234 .closes) (fun t => (t.phase, t.rx)) = some (.idle, ident1234) := by decide

/-- V42, V46: a REQUEST and a WRITE frame are both accepted. -/
theorem test_awaitIdent_accepts :
    after .awaitIdent (stateAt .awaitIdent ident1234 .closes) (fun t => (t.disc, t.discValid, t.rxfValid, t.phase, t.rx)) =
      some (0x1234#16, true, true, .identFound, []) ∧
    after .awaitIdent (stateAt .awaitIdent confirm2000 .closes) (fun t => (t.disc, t.phase, t.rx)) =
      some (0x2000#16, .identFound, []) := by decide +kernel

/-- P4, P10h: too few bytes, and a stream out of step. -/
theorem test_awaitIdent_fails :
    after .awaitIdent (stateAt .awaitIdent (ident1234.take 4) .closes) (fun t => (t.phase, t.outcome, t.cause, t.discValid, t.tx)) =
      some (.done, .identFailed, .shortRead, false, []) ∧
    after .awaitIdent (stateAt .awaitIdent (0xAA#8 :: ident1234) .closes) (fun t => (t.phase, t.cause, t.rxFn, t.rx)) =
      some (.done, .unexpectedFunction, 0x12#8, [0xF9#8]) := by decide +kernel

/-- V43a, V43b. -/
theorem test_identFound :
    after .identFound { stateAt .identFound [] .closes with targetValid := false } (fun t => (t.phase, t.outcome, t.cause)) =
      some (.done, .noChange, .none) ∧
    after .identFound (stateAt .identFound [] .closes) (fun t => (t.phase, t.outcome)) =
      some (.buildingWriteCommand, .none) := by decide

/-- V44a. -/
theorem test_buildingWriteCommand_ok :
    after .buildingWriteCommand { stateAt .buildingWriteCommand [] .closes with writeAnswers := [.ok] }
      (fun t => (t.txBytes, t.txlen, t.tx, t.phase)) = some (command2000, 10#4, command2000, .awaitConfirm) := by
  decide +kernel

/-- V44b: the run is over and no more than 9 bytes are on the wire. -/
theorem test_buildingWriteCommand_error :
    after .buildingWriteCommand { stateAt .buildingWriteCommand [] .closes with writeAnswers := [.writeError] }
      (fun t => (t.txBytes, t.phase, t.outcome, t.cause)) = some (command2000, .done, .writeFailed, .writeError) := by
  decide +kernel

/-- V45b, V45c. -/
theorem test_awaitConfirm_rejects :
    after .awaitConfirm (stateAt .awaitConfirm confirm1234 .closes) (fun t => (t.phase, t.outcome, t.cause, t.rxAddr)) =
      some (.done, .rejectedAddress, .addressRejected, 0x1234#16) ∧
    after .awaitConfirm (stateAt .awaitConfirm ident1234 .closes) (fun t => (t.phase, t.outcome, t.cause, t.rxFn)) =
      some (.done, .rejectedFunction, .confirmFunctionMismatch, 4#8) := by decide +kernel

/-- V45e, V45g. -/
theorem test_awaitConfirm_fails :
    after .awaitConfirm
      (stateAt .awaitConfirm [0x55#8, 0x00#8, 0x20#8, 0x02#8, 0x00#8, 0x03#8, 0x27#8, 0xDF#8] .closes)
      (fun t => (t.outcome, t.cause, t.crcRx, t.crcCalc, t.rxfValid)) =
      some (.confirmFailed, .checksumMismatch, 0xDF27#16, 0x1FE6#16, false) ∧
    after .awaitConfirm (stateAt .awaitConfirm [] .closes) (fun t => (t.phase, t.outcome, t.cause)) =
      some (.done, .confirmFailed, .shortRead) := by decide +kernel

/-- R210: terminal. -/
theorem test_done :
    after .done { stateAt .done ident1234 .closes with outcome := .noChange } (fun t => (t.phase, t.outcome, t.rx)) =
      some (.done, .noChange, ident1234) := by decide

/-- V42 with the frame arriving while the block waits for it. -/
theorem test_ident_arrives :
    after (.ident 0x55#8 0x1234#16 0x00#8 0xF984#16) (stateAt .awaitIdent [] .stalls) (fun t => (t.phase, t.disc, t.rx)) =
      some (.identFound, 0x1234#16, []) := by decide +kernel

/-- V45a with the frame arriving in two pieces (spec/41_codec.md R173): the last byte ends the hold. -/
theorem test_confirm_arrives :
    after (.confirm 0x55#8 0x2000#16 0x00#8 0x02#8 0xDF27#16) (stateAt .awaitConfirm [] .stalls)
      (fun t => (t.phase, t.outcome, t.rxAddr)) = some (.done, .confirmed, 0x2000#16) ∧
    (after .awaitConfirm (stateAt .awaitConfirm (confirm2000.take 7) .stalls) (fun t => t)).bind
      (fun t => afterStep { t with inbox := [.received [0xDF#8]] } (fun u => (u.phase, u.outcome, u.rxAddr))) =
      some (.done, .confirmed, 0x2000#16) := by decide +kernel

/-- V19: the bytes sent. -/
theorem test_setAddr :
    after (.setAddr 0x2000#16 0xD05C#16) { stateAt .buildingWriteCommand [] .closes with writeAnswers := [.ok] }
      (fun t => (t.tx, t.phase)) = some (command2000, .awaitConfirm) := by decide +kernel

/-- V45f: a READ frame where the confirmation was expected; V32: its checksum is not looked at. -/
theorem test_frameRead_arrives :
    after (.frameRead 0x55#8 0x2000#16 0x00#8 [] 0x5628#16) (stateAt .awaitConfirm [] .stalls)
      (fun t => (t.phase, t.outcome, t.cause, t.rxFn)) = some (.done, .confirmFailed, .unexpectedFunction, 1#8) := by
  decide +kernel

/-- P5: a CONTROL frame where the IDENT was expected. -/
theorem test_frameControl_arrives :
    after (.frameControl 0x55#8 0x1234#16 0x00#8 [] 0xC986#16) (stateAt .awaitIdent [] .stalls)
      (fun t => (t.phase, t.outcome, t.cause, t.rxFn, t.tx)) =
      some (.done, .identFailed, .unexpectedFunction, 3#8, []) := by decide +kernel

/-- V40: held for ever, the bytes still there. -/
theorem test_held :
    after .awaitIdent (stateAt .awaitIdent (ident1234.take 4) .stalls) (fun t => (t.phase, t.outcome, t.inFlight, t.rx)) =
      some (.awaitIdent, .none, some (.read 7), ident1234.take 4) := by decide

/-- The host's word runs as the next step. -/
theorem test_fetchWord :
    afterStep (State.reset.withFetchWord 8 0b11) State.phase = some .awaitIdent ∧
    afterStep (State.reset.withFetchWord 3 0b010) (fun t => (t.phase, t.outcome)) = some (.done, .noChange) ∧
    afterStep (State.reset.withFetchWord 80 0xD05C2000020002000055) (fun t => (t.phase, t.inFlight, t.txBytes)) =
      some (.buildingWriteCommand, some (.write 10), command2000) := by decide +kernel

/-! ### The hypotheses of the statements can be met

One theorem for each statement that has hypotheses, one part for each clause, at the ends of its ranges. -/

theorem witness_DecodeEncodeRoundTrip :
    (Instr.setAddr 0x0001#16 0x985C#16).wellFormed = true ∧
    (Instr.frameRead 0x00#8 0xFFFF#16 0xFF#8 [1#8, 2#8, 3#8, 4#8] 0#16).wellFormed = true := by decide +kernel

theorem witness_FrameWordsHaveOneMeaning :
    decode (.frame .inbound ident1234) = .ok (.ident 0x55#8 0x1234#16 0#8 0xF984#16) ∧
    decode (.frame .outbound command2000) = .ok (.setAddr 0x2000#16 0xD05C#16) := by decide

theorem witness_FunctionByteSelectsInboundKind :
    2 ≤ [0x84#8, 0xF9#8].length ∧
    decode (.frame .inbound (0x55#8 :: 0x34#8 :: 0x12#8 :: 0x04#8 :: 0x00#8 :: [0x84#8, 0xF9#8])) =
      .ok (.ident 0x55#8 0x1234#16 0#8 0xF984#16) ∧
    (∀ fn ∈ [0x00#8, 0x05#8, 0xFF#8], fn ≠ 1#8 ∧ fn ≠ 2#8 ∧ fn ≠ 3#8 ∧ fn ≠ 4#8) := by decide

theorem witness_CrcBitShiftsThenXors : (0 : Nat) < 16 ∧ (15 : Nat) < 16 := by decide

theorem witness_CrcDetectsEverySingleBit : (0 : Nat) < 8 ∧ (7 : Nat) < 8 := by decide

theorem witness_CrcByteIsEightShifts : (0 : Nat) < 16 ∧ (7 : Nat) < 8 ∧ (8 : Nat) < 16 ∧ (15 : Nat) < 16 := by decide

theorem witness_Crc16ReturnsTheChecksum : Free State.reset ∧ Free (stateAt .done ident1234 .closes) := ⟨⟨rfl, rfl⟩, rfl, rfl⟩

theorem witness_Crc16DependsOnTheBytesAlone :
    Free State.reset ∧ Free { stateAt .done ident1234 .closes with acc := 0x1234#16 } := ⟨⟨rfl, rfl⟩, rfl, rfl⟩

theorem witness_EncodeBuildsTheFrame :
    Free State.reset ∧ Free (stateAt .done [] .closes) ∧ [0#8, 1#8, 2#8, 3#8].length ≤ 4 ∧ ((1#8 : Byte) = 1#8) ∧
    ((4#8 : Byte) = 4#8) := ⟨⟨rfl, rfl⟩, ⟨rfl, rfl⟩, by decide, rfl, rfl⟩

theorem witness_EncodeRefusesBadOperands :
    Free State.reset ∧ Free (stateAt .done [] .closes) ∧ 4 < [0#8, 1#8, 2#8, 3#8, 4#8].length ∧
    (∀ fn ∈ [0x00#8, 0x05#8], fn ≠ 1#8 ∧ fn ≠ 2#8 ∧ fn ≠ 3#8 ∧ fn ≠ 4#8) := ⟨⟨rfl, rfl⟩, ⟨rfl, rfl⟩, by decide, by decide⟩

/-- A stream for each of the four endings. -/
theorem witness_DecodeFollowsTheStream :
    Free (stateAt .idle ident1234 .closes) ∧
    decodeStream (ident1234 ++ [0xAA#8]) .closes = .frame ⟨0x55#8, 0x1234#16, 4#8, 0#8, [], 0xF984#16⟩ [0xAA#8] ∧
    decodeStream (0xAA#8 :: ident1234) .stalls = .error (.unexpectedFunction 0x12#8) [0xF9#8] ∧
    decodeStream (confirm2000.take 7) .closes = .short ∧ decodeStream (confirm2000.take 7) .stalls = .held :=
  ⟨⟨rfl, rfl⟩, by decide +kernel⟩

theorem witness_DecodeRecoversAdmittedFrames :
    Free (stateAt .done ident1234 .stalls) ∧ crc16 [0x55#8, 0x34#8, 0x12#8, 0x04#8, 0x00#8] = 0xF984#16 ∧
    Free (stateAt .idle confirm2000 .closes) ∧ crc16 [0x55#8, 0x00#8, 0x20#8, 0x02#8, 0x00#8, 0x02#8] = 0xDF27#16 :=
  ⟨⟨rfl, rfl⟩, by decide +kernel, ⟨rfl, rfl⟩, by decide +kernel⟩

theorem witness_DecodeRejectsOtherFunctions :
    ∀ fn ∈ [0x00#8, 0x01#8, 0x03#8, 0x05#8, 0xFF#8], fn ≠ 2#8 ∧ fn ≠ 4#8 ∧
      (stateAt .idle ([0x55#8, 0x34#8, 0x12#8, fn, 0x00#8, 0x86#8, 0xC9#8] ++ [0xAA#8]) .closes).inFlight = none := by decide

theorem witness_DecodeComparesTheChecksum :
    Free (stateAt .idle [] .closes) ∧
    le16 0x85#8 0xF9#8 ≠ crc16 [0x55#8, 0x34#8, 0x12#8, 4#8, 0x00#8] ∧
    le16 0x27#8 0xDF#8 ≠ crc16 [0x55#8, 0x00#8, 0x20#8, 2#8, 0x00#8, 0x03#8] :=
  ⟨⟨rfl, rfl⟩, by decide +kernel, by decide +kernel⟩

/-- 0 and 6 bytes, and 7 with function WRITE. -/
theorem witness_DecodeShortRead :
    Free (stateAt .idle [] .closes) ∧ (stateAt .idle [] .closes).rx.length < 7 ∧
    (stateAt .idle (ident1234.take 6) .closes).rx.length < 7 ∧
    ((stateAt .idle (confirm2000.take 7) .closes).rx.length = 7 ∧
      (stateAt .idle (confirm2000.take 7) .closes).rx[3]? = some 2#8) := ⟨⟨rfl, rfl⟩, by decide⟩

theorem witness_DecodeIsHeldByAStall :
    Free (stateAt .idle (confirm2000.take 7) .stalls) ∧ (stateAt .idle (ident1234.take 6) .stalls).rx.length < 7 ∧
    ((stateAt .idle (confirm2000.take 7) .stalls).rx.length = 7 ∧
      (stateAt .idle (confirm2000.take 7) .stalls).rx[3]? = some 2#8) := ⟨⟨rfl, rfl⟩, by decide⟩

/-- The first, the function and the last byte of both shapes. -/
theorem witness_NoSingleBitFlipDecodes :
    builtFrame 4#8 0x1234#16 0#8 [] = ident1234 ∧ builtFrame 2#8 0x2000#16 0#8 [0x02#8] = confirm2000 ∧
    (∀ k ∈ [0, 3, 6], k < ident1234.length) ∧ (∀ k ∈ [0, 3, 7], k < confirm2000.length) ∧ (7 : Nat) < 8 := by decide +kernel

theorem witness_StagedDecodeIsTheWholeDecode :
    ∀ p ∈ [Phase.awaitIdent, .awaitConfirm, .idle, .done],
      (stateAt p (confirm2000.take 7) .stalls).inFlight = none ∧ (stateAt p (confirm2000.take 7) .stalls).rx.length = 7 ∧
      (stateAt p (confirm2000.take 7) .stalls).rx[3]? = some 2#8 ∧ (stateAt p (confirm2000.take 7) .stalls).phase = p := by decide

theorem witness_OwnCommandDoesNotDecode : (0x2000#16 : Word) ≠ 0x1F2C#16 := by decide

theorem witness_StartOpensASession : Free State.reset ∧ Free (stateAt .done [] .closes) := ⟨⟨rfl, rfl⟩, rfl, rfl⟩

theorem witness_BusyRefusesEveryOperation :
    ∀ p ∈ [Phase.awaitIdent, .identFound, .buildingWriteCommand, .awaitConfirm], (stateAt p [] .stalls).busy = true := by decide

/-- Held, with an operation of HOST waiting and bytes that come behind it. -/
theorem witness_HeldDecodeKeepsOperationsWaiting :
    NotBusy heldHost ∧ heldHost.inFlight ≠ none ∧ NotBusy heldHostSecond ∧ heldHostSecond.inFlight ≠ none ∧
    (∀ j ∈ [Input.command 0b00#2 {}], ∃ opsel arg, j = .command opsel arg) ∧
    (∀ opsel arg, Input.received [0xDF#8] ≠ .command opsel arg) ∧
    { heldHostSecond with inbox := [.command 0b00#2 {}, .received [0xDF#8]] }.inbox =
      [.command 0b00#2 {}] ++ .received [0xDF#8] :: [] :=
  ⟨rfl, by decide, rfl, by decide, fun j hj => ⟨_, _, by simpa using hj⟩, by simp, rfl⟩

/-- R173, R278: the bytes that end the hold come first, then the operation that waited begins. -/
theorem test_waiting_operation :
    afterStep { heldHostSecond with inbox := [.command 0b00#2 {}, .received [0xDF#8]] }
      (fun t => (t.inFlight, t.rxfValid, t.inbox, t.nextCode)) =
      some (none, true, [.command 0b00#2 {}], some (.op 0b00#2 {})) := by decide +kernel

/-- From the beginning of the `DECODE` and from its second read. -/
theorem witness_AwaitIdentCapturesTheAddress :
    StageFits (stateAt .awaitIdent ident1234 .closes) ∧
    decodeStream (stateAt .awaitIdent ident1234 .closes).decodeBytes .closes =
      .frame ⟨0x55#8, 0x1234#16, 4#8, 0#8, [], 0xF984#16⟩ [] ∧
    StageFits { heldIdent with rx := [0xDF#8] } ∧
    decodeStream { heldIdent with rx := [0xDF#8] }.decodeBytes .stalls =
      .frame ⟨0x55#8, 0x2000#16, 2#8, 0#8, [0x02#8], 0xDF27#16⟩ [] :=
  ⟨nofun, by decide +kernel, fun _ => ⟨rfl, rfl, rfl⟩, by decide +kernel⟩

theorem witness_AwaitIdentFails :
    StageFits (stateAt .awaitIdent [] .closes) ∧
    decodeStream (stateAt .awaitIdent (0xAA#8 :: ident1234) .closes).decodeBytes .closes =
      .error (.unexpectedFunction 0x12#8) [0xF9#8] ∧
    decodeStream (stateAt .awaitIdent (ident1234.take 6) .closes).decodeBytes .closes = .short ∧
    decodeStream (stateAt .awaitIdent (ident1234.take 6) .stalls).decodeBytes .stalls = .held ∧
    StageFits heldIdent ∧
    decodeStream { heldIdent with rx := [0xDE#8] }.decodeBytes .stalls = .error (.checksumMismatch 0xDE27#16 0xDF27#16) [] ∧
    decodeStream heldIdent.decodeBytes .closes = .short ∧ decodeStream heldIdent.decodeBytes .stalls = .held :=
  ⟨nofun, by decide +kernel, by decide +kernel, by decide +kernel, fun _ => ⟨rfl, rfl, rfl⟩,
   by decide +kernel, by decide +kernel, by decide +kernel⟩

theorem witness_IdentFoundBranchesOnTheTarget :
    { stateAt .identFound [] .closes with targetValid := false }.targetValid = false ∧
    (stateAt .identFound [] .closes).targetValid = true := by decide

theorem witness_BuildingWriteCommandSends :
    (stateAt .buildingWriteCommand [] .closes).inFlight = none ∧
    { stateAt .buildingWriteCommand [] .closes with writeAnswers := [.ok] }.writeAnswers = .ok :: [] ∧
    { stateAt .buildingWriteCommand [] .closes with writeAnswers := [.writeError] }.writeAnswers = .writeError :: [] ∧
    (stateAt .buildingWriteCommand [] .closes).writeAnswers = [] := by decide

/-- The block after the IDENT frame `bytes` has been decoded and the target found, with the write answered `Ok`. -/
def afterIdent (bytes : List Byte) : State :=
  { stateAt .buildingWriteCommand [] .closes with
    acc := crc16 (bytes.take 5), disc := le16 (bytes.getD 1 0#8) (bytes.getD 2 0#8), discValid := true,
    rxb := RxBuf.loadFirst (freeRxBuf 0) bytes, rxlen := 7#4, rxfValid := true, writeAnswers := [.ok] }

/-- Two IDENT frames of different addresses and checksums (V15, V16), one target, and a run that goes on. -/
theorem witness_CommandIgnoresTheIdentFrame :
    (afterIdent ident1234).phase = .buildingWriteCommand ∧ (afterIdent ident1234).inFlight = none ∧
    (afterIdent ident0000).phase = .buildingWriteCommand ∧ (afterIdent ident0000).inFlight = none ∧
    (afterIdent ident0000).target = (afterIdent ident1234).target ∧
    (afterIdent ident0000).acc ≠ (afterIdent ident1234).acc ∧ (afterIdent ident0000).disc ≠ (afterIdent ident1234).disc ∧
    (afterIdent ident0000).writeAnswers = (afterIdent ident1234).writeAnswers ∧
    after .buildingWriteCommand (afterIdent ident1234) (fun t => (t.phase, t.tx)) = some (.awaitConfirm, command2000) ∧
    after .buildingWriteCommand (afterIdent ident0000) (fun t => (t.phase, t.tx)) = some (.awaitConfirm, command2000) := by
  decide +kernel

/-- A frame for each of the three branches, and one that ends at the second read. -/
theorem witness_AwaitConfirmJudgesTheFrame :
    StageFits (stateAt .awaitConfirm [] .closes) ∧ (stateAt .awaitConfirm [] .closes).target = 0x2000#16 ∧
    decodeStream (stateAt .awaitConfirm ident1234 .closes).decodeBytes .closes =
      .frame ⟨0x55#8, 0x1234#16, 4#8, 0#8, [], 0xF984#16⟩ [] ∧
    decodeStream (stateAt .awaitConfirm confirm1234 .closes).decodeBytes .closes =
      .frame ⟨0x55#8, 0x1234#16, 2#8, 0#8, [0x02#8], 0xA398#16⟩ [] ∧
    decodeStream (stateAt .awaitConfirm confirm2000 .closes).decodeBytes .closes =
      .frame ⟨0x55#8, 0x2000#16, 2#8, 0#8, [0x02#8], 0xDF27#16⟩ [] ∧
    StageFits { heldSecond with rx := [0xDF#8] } ∧
    decodeStream { heldSecond with rx := [0xDF#8] }.decodeBytes .stalls =
      .frame ⟨0x55#8, 0x2000#16, 2#8, 0#8, [0x02#8], 0xDF27#16⟩ [] :=
  ⟨nofun, rfl, by decide +kernel, by decide +kernel, by decide +kernel, fun _ => ⟨rfl, rfl, rfl⟩, by decide +kernel⟩

theorem witness_AwaitConfirmFails :
    StageFits (stateAt .awaitConfirm [] .closes) ∧
    decodeStream (stateAt .awaitConfirm [0x55#8, 0x00#8, 0x20#8, 0x02#8, 0x00#8, 0x03#8, 0x27#8, 0xDF#8] .closes).decodeBytes .closes =
      .error (.checksumMismatch 0xDF27#16 0x1FE6#16) [] ∧
    decodeStream (stateAt .awaitConfirm [] .closes).decodeBytes .closes = .short ∧
    decodeStream (stateAt .awaitConfirm [] .stalls).decodeBytes .stalls = .held ∧
    StageFits heldSecond ∧
    decodeStream { heldSecond with rx := [0xDE#8] }.decodeBytes .stalls = .error (.checksumMismatch 0xDE27#16 0xDF27#16) [] ∧
    decodeStream heldSecond.decodeBytes .closes = .short ∧ decodeStream heldSecond.decodeBytes .stalls = .held :=
  ⟨nofun, by decide +kernel, by decide +kernel, by decide +kernel, fun _ => ⟨rfl, rfl, rfl⟩,
   by decide +kernel, by decide +kernel, by decide +kernel⟩

theorem witness_IdleAndDoneRest : (stateAt .done ident1234 .closes).inFlight = none := rfl

/-- A run that is answered (P2) and one that is not (P9). -/
theorem witness_RunIsTheRunFunction :
    Free (stateAt .idle [] .closes) ∧ (stateAt .idle [] .closes).inbox = [] ∧
    hsRun (some 0x2000#16) (ident1234 ++ confirm2000) .closes [.ok] = some (some 0x1234#16, .confirmed 0x2000#16) ∧
    hsRun (some 0x2000#16) ident1234 .stalls [.ok] = none := ⟨⟨rfl, rfl⟩, rfl, by decide +kernel⟩

/-- After `n` steps the run for `target` is over and nothing is to come. -/
def comesToRest (s : State) (target : Option Word) (n : Nat) : Bool :=
  match core.run n (s.openSession target) with
  | .next u => decide (u.phase = .done ∧ u.inbox = [] ∧ u.inFlight = none)
  | .fault _ => false
  | .refused _ => false

theorem answers_of_comesToRest {s : State} {target : Option Word} {n : Nat} (h : comesToRest s target n = true) :
    Answers s target := by
  unfold comesToRest at h
  split at h
  · rename_i u hu
    obtain ⟨hp, hb, hf⟩ := of_decide_eq_true h
    exact answers_of_done hu hp hb hf
  · cases h
  · cases h

/-- P2 with its bytes and its answer still to come, behind a result read. -/
def answeredLater : State :=
  { stateAt .idle [] .stalls with
    inbox := [.received ident1234, .wait, .readResult, .writeAnswer .ok, .wait, .received (confirm2000.take 7), .channel .closes,
      .channel .stalls, .received (confirm2000.drop 7)] }

/-- P2, P3, P8: bytes and answers that are there, and bytes and an answer that come. -/
theorem witness_AnsweredRunEnds :
    Free (stateAt .idle [] .closes) ∧ HostWaits (stateAt .idle [] .closes) ∧
    Answers { stateAt .idle (ident1234 ++ confirm2000) .stalls with writeAnswers := [.ok] } (some 0x2000#16) ∧
    Answers (stateAt .idle (ident1234.take 4) .closes) (some 0x2000#16) ∧
    Answers (stateAt .idle ident1234 .stalls) none ∧
    Free answeredLater ∧ HostWaits answeredLater ∧ Answers answeredLater (some 0x2000#16) :=
  ⟨⟨rfl, rfl⟩, nofun, answers_of_comesToRest (n := 4) (by decide +kernel), answers_of_comesToRest (n := 1) (by decide +kernel),
   answers_of_comesToRest (n := 2) (by decide +kernel), ⟨rfl, rfl⟩, by simp [HostWaits, answeredLater],
   answers_of_comesToRest (n := 13) (by decide +kernel)⟩

/-- A write that is answered late is answered, and a channel that stalls behind the bytes is no answer (R279). -/
theorem test_answers_counts_every_answer :
    comesToRest { stateAt .idle (ident1234 ++ confirm2000) .stalls with inbox := [.writeAnswer .ok] } (some 0x2000#16) 5 = true ∧
    (∀ n ∈ [1, 2, 3, 7], comesToRest { stateAt .idle [] .closes with inbox := [.channel .stalls] } none n = false) := by
  decide +kernel

theorem witness_AnswersIsWhereTheRunFunctionEnds :
    Free (stateAt .idle ident1234 .stalls) ∧ (stateAt .idle ident1234 .stalls).inbox = [] ∧
    hsRun none ident1234 .stalls [] = some (some 0x1234#16, .noChange) ∧ hsRun none [] .stalls [] = none :=
  ⟨⟨rfl, rfl⟩, rfl, by decide +kernel, by decide +kernel⟩

/-- Held at the first read of `AwaitIdent`. -/
def heldFirst : State := { stateAt .awaitIdent (ident1234.take 4) .stalls with inFlight := some (.read 7) }

/-- Held at the write. -/
def heldWrite : State :=
  { stateAt .buildingWriteCommand [] .stalls with
    inFlight := some (.write 10), discValid := true, txlen := 10#4, txb := TxBuf.load (freeTxBuf 0) command2000 }

/-- A confirmed run. -/
def confirmedRun : State :=
  { stateAt .done [] .stalls with
    discValid := true, outcome := .confirmed, rxAddr := 0x2000#16, txlen := 10#4, txb := TxBuf.load (freeTxBuf 0) command2000 }

theorem heldFirst_legal : Legal heldFirst := by
  constructor
  case call => exact ⟨rfl, by decide, by decide, .inl rfl⟩
  all_goals decide +kernel

theorem heldSecond_legal : Legal heldSecond := by
  constructor
  case call => exact ⟨rfl, by decide, by decide, .inr ⟨rfl, rfl, rfl⟩⟩
  all_goals decide +kernel

theorem heldWrite_legal : Legal heldWrite := by
  constructor
  case call => exact ⟨rfl, rfl, by decide +kernel⟩
  all_goals decide +kernel

theorem confirmedRun_legal : Legal confirmedRun := by
  constructor
  case call => exact trivial
  all_goals decide +kernel

theorem heldHost_legal : Legal heldHost := by
  constructor
  case call => exact ⟨rfl, by decide, by decide, .inl rfl⟩
  all_goals decide +kernel

theorem heldHostSecond_legal : Legal heldHostSecond := by
  constructor
  case call => exact ⟨rfl, by decide, by decide, .inr ⟨rfl, rfl, rfl⟩⟩
  all_goals decide +kernel

theorem witness_HoldIsForEver :
    (Legal heldFirst ∧ heldFirst.nextInput = none ∧
      heldFirst.inFlight = some (.read 7) ∧ heldFirst.rx.length < 7 ∧ heldFirst.rxEnd = .stalls) ∧
    (Legal heldSecond ∧ heldSecond.nextInput = none ∧
      heldSecond.inFlight = some (.read 1) ∧ heldSecond.rx.length < 1 ∧ heldSecond.rxEnd = .stalls) ∧
    (Legal heldWrite ∧ heldWrite.nextInput = none ∧ heldWrite.inFlight = some (.write 10) ∧ heldWrite.writeAnswers = []) ∧
    (Legal { heldHost with inbox := [.command 0b00#2 {}] } ∧ { heldHost with inbox := [.command 0b00#2 {}] }.nextInput = none ∧
      heldHost.inFlight = some (.read 7) ∧ heldHost.rx.length < 7 ∧ heldHost.rxEnd = .stalls) :=
  ⟨⟨heldFirst_legal, by decide⟩, ⟨heldSecond_legal, by decide⟩, ⟨heldWrite_legal, by decide⟩,
   heldHost_legal.env _ _ _ _ _ _ _ _, by decide⟩

theorem witness_HeldWriteGoesOn :
    Legal heldWrite ∧ heldWrite.inFlight = some (.write 10) ∧ heldWrite.writeAnswers = [] ∧
    (∀ a ∈ [WriteAnswer.ok, .writeError], Legal { heldWrite with writeAnswers := [a] }) :=
  ⟨heldWrite_legal, rfl, rfl, fun _ _ => heldWrite_legal.env _ _ _ _ _ _ _ _⟩

/-- At the first read and at the second: a frame, an error, too few bytes on a channel that closes and on one that stalls. -/
theorem witness_HeldDecodeGoesOn :
    Legal { heldHost with rx := ident1234 } ∧ heldHost.phase = .idle ∧ heldHost.inFlight ≠ none ∧
    decodeStream ident1234 .stalls = .frame ⟨0x55#8, 0x1234#16, 4#8, 0#8, [], 0xF984#16⟩ [] ∧
    decodeStream heldHost.decodeBytes .stalls = .held ∧ decodeStream heldHost.decodeBytes .closes = .short ∧
    Legal { heldHostSecond with rx := [0xDF#8] } ∧
    decodeStream { heldHostSecond with rx := [0xDF#8] }.decodeBytes .stalls =
      .frame ⟨0x55#8, 0x2000#16, 2#8, 0#8, [0x02#8], 0xDF27#16⟩ [] ∧
    decodeStream { heldHostSecond with rx := [0xDE#8] }.decodeBytes .stalls = .error (.checksumMismatch 0xDE27#16 0xDF27#16) [] ∧
    decodeStream heldHostSecond.decodeBytes .closes = .short ∧ decodeStream heldHostSecond.decodeBytes .stalls = .held :=
  ⟨heldHost_legal.env _ _ _ _ _ _ _ _, rfl, by decide, by decide +kernel, by decide, by decide,
   heldHostSecond_legal.env _ _ _ _ _ _ _ _, by decide +kernel, by decide +kernel, by decide +kernel, by decide +kernel⟩

/-- An IDENT frame that arrives whole (V42), one that is cut (P4), and a CONTROL frame (P5): the two clauses are met. -/
theorem witness_CleanStreamIsReadAtTheFrame :
    Free { State.reset with inbox := [.received ident1234] } ∧ RxClean { State.reset with inbox := [.received ident1234] } ∧
    RxClean { State.reset with inbox := [.received (ident1234.take 4)] } ∧
    afterStep { stateAt .awaitIdent [] .stalls with inbox := [.received ident1234] } State.phase = some .identFound ∧
    afterStep { stateAt .awaitIdent [] .stalls with
      inbox := [.received [0x55#8, 0x34#8, 0x12#8, 0x03#8, 0x00#8, 0x86#8, 0xC9#8]] } State.cause = some .unexpectedFunction :=
  ⟨⟨rfl, rfl⟩,
   ⟨rfl, 4#8, 0x1234#16, 0#8, [], by decide, .inl ⟨[], by decide +kernel⟩⟩,
   ⟨rfl, 4#8, 0x1234#16, 0#8, [], by decide, .inl ⟨ident1234.drop 4, by decide +kernel⟩⟩,
   by decide +kernel, by decide +kernel⟩

/-- A stream one byte out of step (P10h) is not clean. -/
theorem test_out_of_step_not_clean : ¬ RxClean { State.reset with inbox := [.received (0xAA#8 :: ident1234)] } := by
  rintro ⟨-, fn, addr, da, pl, -, h⟩
  exact absurd (StartsWithFrame.header (bs := [0xF9#8]) h).1 (by decide)

/-- The premises of a run on its installation can be met and can fail (R273, R283). -/
theorem test_installation :
    PortReady ⟨true, true, some Config.serialLine, 1⟩ ∧ OneDevice ⟨true, true, none, 1⟩ ∧
    ¬ PortReady ⟨true, false, none, 1⟩ ∧ ¬ OneDevice ⟨true, true, none, 2⟩ := by
  refine ⟨⟨rfl, rfl, fun l h => (Option.some.inj h).symm⟩, rfl, fun h => ?_, fun h => ?_⟩
  · exact absurd h.2.1 (by decide)
  · exact absurd (show (2 : Nat) = 1 from h) (by decide)

/-- One step for each of the four clauses. -/
theorem witness_PhaseMovesAlongTheArrows :
    afterStep (stateAt .idle [] .stalls) State.phase = some .idle ∧
    afterStep (stateAt .awaitIdent ident1234 .stalls) State.phase = some .identFound ∧
    afterStep { stateAt .done [] .stalls with inbox := [.command 0b11#2 {}] } State.phase = some .awaitIdent ∧
    afterStep { stateAt .awaitConfirm [] .stalls with inbox := [.reset] } State.phase = some .idle := by decide +kernel

/-- A step that sends the command, and one that sends nothing. -/
theorem witness_OnlyTheCommandIsSent :
    Legal { heldWrite with writeAnswers := [.ok] } ∧
    afterStep { heldWrite with writeAnswers := [.ok] } State.tx = some command2000 ∧
    Legal heldFirst ∧ afterStep heldFirst State.tx = some [] :=
  ⟨heldWrite_legal.env _ _ _ _ _ _ _ _,
   by decide +kernel, heldFirst_legal, by decide +kernel⟩

theorem witness_DiscoveredAddressIsKept :
    Legal heldSecond ∧ heldSecond.discValid = true ∧ afterStep heldSecond State.discValid = some true ∧
    Legal confirmedRun ∧ confirmedRun.discValid = true :=
  ⟨heldSecond_legal, rfl, by decide +kernel, confirmedRun_legal, rfl⟩

/-- Both phases, with the right checksum and with a wrong one. -/
theorem witness_IdentFrameReceived :
    (∀ p ∈ [Phase.awaitIdent, .awaitConfirm],
      (stateAt p [] .stalls).inFlight ≠ some (.read 1) ∧ (stateAt p [] .stalls).rx = [] ∧ (stateAt p [] .stalls).phase = p) ∧
    0xF984#16 = crc16 [0x55#8, loByte 0x1234#16, hiByte 0x1234#16, 4#8, 0x00#8] ∧
    0xF985#16 ≠ crc16 [0x55#8, loByte 0x1234#16, hiByte 0x1234#16, 4#8, 0x00#8] := by decide +kernel

/-- The same, with the target's address and with another. -/
theorem witness_ConfirmFrameReceived :
    (∀ p ∈ [Phase.awaitIdent, .awaitConfirm],
      (stateAt p [] .stalls).inFlight ≠ some (.read 1) ∧ (stateAt p [] .stalls).rx = [] ∧ (stateAt p [] .stalls).phase = p) ∧
    0xDF27#16 = crc16 [0x55#8, loByte 0x2000#16, hiByte 0x2000#16, 2#8, 0x00#8, 0x02#8] ∧
    0xA398#16 = crc16 [0x55#8, loByte 0x1234#16, hiByte 0x1234#16, 2#8, 0x00#8, 0x02#8] ∧
    0xDF27#16 ≠ crc16 [0x55#8, loByte 0x2000#16, hiByte 0x2000#16, 2#8, 0x00#8, 0x03#8] ∧
    (stateAt .awaitConfirm [] .stalls).target = 0x2000#16 ∧ (0x1234#16 : Word) ≠ 0x2000#16 := by decide +kernel

theorem witness_ReadAndControlFramesRejected :
    ∀ p ∈ [Phase.awaitIdent, .awaitConfirm],
      (stateAt p [] .stalls).inFlight ≠ some (.read 1) ∧ (stateAt p [] .stalls).rx = [] ∧ (stateAt p [] .stalls).phase = p := by
  decide

theorem witness_EarlyFramesWait :
    ∀ p ∈ [Phase.idle, .identFound, .buildingWriteCommand, .done], (stateAt p [] .stalls).reading = false := by decide

theorem witness_ArrivingFrameGoesOnWithTheDecode :
    (∀ p ∈ [Phase.awaitIdent, .awaitConfirm], (stateAt p [] .stalls).reading = true) ∧ heldHost.reading = true ∧
    decode (.phase heldHost.phase.code) = .ok .idle := by decide

theorem witness_SetAddrIsTheCommand :
    (stateAt .buildingWriteCommand [] .stalls).phase = .buildingWriteCommand ∧
    (stateAt .buildingWriteCommand [] .stalls).inFlight = none ∧
    { stateAt .buildingWriteCommand [] .stalls with writeAnswers := [.ok] }.writeAnswers = .ok :: [] := by decide

theorem witness_SetAddrElsewhereIsEncode :
    ∀ p ∈ [Phase.idle, .awaitIdent, .identFound, .awaitConfirm, .done], (stateAt p [] .stalls).phase ≠ .buildingWriteCommand := by
  decide

/-- A code of each of the three spaces stands next; every clause, and a queue whose first move waits. -/
theorem witness_StepRunsTheNextInstruction :
    (stateAt .identFound [] .stalls).nextInput = none ∧ (stateAt .identFound [] .stalls).nextCode = some (.phase 0b010#3) ∧
    decode (.phase 0b010#3) = .ok .identFound ∧
    { State.reset with inbox := [.command 0b10#2 {}] }.nextCode = some (.op 0b10#2 {}) ∧
    decode (.op 0b10#2 {}) = .ok .decode ∧
    { State.reset with inbox := [.received ident1234] }.nextCode = some (.frame .inbound ident1234) ∧
    decode (.frame .inbound ident1234) = .ok (.ident 0x55#8 0x1234#16 0#8 0xF984#16) ∧
    { State.reset with inbox := [.channel .closes] }.nextInput = some (.channel .closes) ∧
    { heldHost with inbox := [.command 0b00#2 {}, .writeAnswer .ok] }.nextInput = some (.writeAnswer .ok) ∧
    (stateAt .awaitIdent [] .stalls).busy = true ∧ State.reset.inFlight = none ∧
    { heldFirst with inbox := [.command 0b00#2 {}] }.inbox = .command 0b00#2 {} :: [] := by decide

theorem witness_ResetPutsTheRegistersBack :
    { stateAt .awaitConfirm ident1234 .stalls with inbox := [.reset, .wait] }.nextInput = some .reset ∧
    { heldHost with inbox := [.command 0b00#2 {}, .reset] }.nextInput = some .reset := by decide

theorem witness_StepKeepsLegal :
    Legal heldSecond ∧ afterStep { heldSecond with inbox := [] } State.phase = some .awaitConfirm :=
  ⟨heldSecond_legal, by decide +kernel⟩

theorem witness_ResultReadHasNoSideEffect :
    { confirmedRun with inbox := [.readResult] }.nextInput = some .readResult ∧
    (confirmedRun.discValid = true ∧ State.reset.discValid = false) ∧
    (confirmedRun.targetValid = true ∧ State.reset.targetValid = false) ∧
    ({ confirmedRun with rxfValid := true }.rxfValid = true ∧ State.reset.rxfValid = false) := ⟨rfl, by decide⟩

theorem witness_ResultIsThereAtDone : Legal confirmedRun ∧ confirmedRun.result = some (.confirmed 0x2000#16) :=
  ⟨confirmedRun_legal, rfl⟩

end Sys2Proof.Tests
end

section
/-! SUPPORT. What one step can do to the registers, said once: it has one of the nine effects of `StepEffect`, on the registers of
the state before it in other surroundings. -/

namespace Sys2Proof.Machine

/-! ### The effects of a step -/

/-- From `s` to `u` the block has done nothing: only its surroundings, HOST's reply and `ACC`, which nothing reads, may differ. -/
def SameRegisters (s u : State) : Prop :=
  u = { s with
    rx := u.rx, rxEnd := u.rxEnd, writeAnswers := u.writeAnswers, inbox := u.inbox, reply := u.reply, acc := u.acc }

/-- `StepEffect s u t`: a step from `s`, whose next move says which effects there can be, leads to `t`.
`u` holds the registers of `s` in the surroundings that the move leaves. -/
inductive StepEffect (s u : State) : State → Prop
  /-- Nothing but the surroundings, the reply or `ACC` has changed. -/
  | unchanged : StepEffect s u u
  /-- HOST resets the block (spec/70_reset_and_hazards.md R270). -/
  | reset (hn : s.resetNext) : StepEffect s u u.resetBlock
  /-- HOST starts a run on a free block (spec/42_handshake.md R191). -/
  | start (hn : s.startNext) (hf : Free u) (target : Option Addr) : StepEffect s u (u.openSession target)
  /-- HOST has a free block build a frame (spec/41_codec.md R160). -/
  | encode (hf : Free u) {fn : Byte} (addr : Addr) (da : DataAddr) {pl : List Byte} (he : encodable fn pl = true) (r : Reply) :
      StepEffect s u ((u.build fn addr da pl).withReply r)
  /-- A `DECODE` of HOST begins or goes on (R164, R173). -/
  | decode (hb : NotBusy u) : StepEffect s u u.hostDecode
  /-- The step of `AwaitIdent` (R195), by itself or as bytes reach it. -/
  | awaitIdent (hp : u.phase = .awaitIdent) : StepEffect s u u.stepAwaitIdent
  /-- The step of `IdentFound` (R199). -/
  | identFound (hp : u.phase = .identFound) : StepEffect s u u.stepIdentFound
  /-- The step of `BuildingWriteCommand` (R200, R201). -/
  | buildingWriteCommand (hp : u.phase = .buildingWriteCommand) : StepEffect s u (u.sendCommand u.target)
  /-- The step of `AwaitConfirm` (R205), by itself or as bytes reach it. -/
  | awaitConfirm (hp : u.phase = .awaitConfirm) : StepEffect s u u.stepAwaitConfirm

/-- At rest a block can only go on with a `DECODE` of HOST (spec/42_handshake.md R194). -/
theorem atRest_effect {s u : State} (hb : NotBusy u) : StepEffect s u u.atRest := by
  unfold State.atRest
  split
  · exact .decode hb
  · exact .unchanged

theorem notBusy_of_idle {s : State} (hp : s.phase = .idle) : NotBusy s := by simp [NotBusy, State.busy, hp, Phase.inRun]

theorem notBusy_of_done {s : State} (hp : s.phase = .done) : NotBusy s := by simp [NotBusy, State.busy, hp, Phase.inRun]

/-- The step that `PHASE` selects (R194). -/
theorem exec_phase_effect {s u t : State} {i : Instr} (hi : decode (.phase u.phase.code) = .ok i) (h : exec i u = .next t) :
    StepEffect s u t := by
  cases hp : u.phase <;> rw [hp] at hi <;> cases hi <;> cases h
  case idle => exact atRest_effect (notBusy_of_idle hp)
  case awaitIdent => exact .awaitIdent hp
  case identFound => exact .identFound hp
  case buildingWriteCommand => exact .buildingWriteCommand hp
  case awaitConfirm => exact .awaitConfirm hp
  case done => exact atRest_effect (notBusy_of_done hp)

/-- A run refuses every operation of HOST (spec/42_handshake.md R193). -/
theorem exec_op_busy {s : State} (hb : s.busy = true) (opsel : BitVec 2) (arg : Operands) :
    exec (decodeOp opsel arg) s = .next (s.refuse .busy) := by
  unfold decodeOp
  split_ifs <;> simp [exec, execCrc16, execEncode, State.hostEncode, execDecode, execHsStart, hb]

/-- While a `DECODE` of HOST is held an operation takes its second branch. -/
theorem ite_held {α : Type} {s : State} (hb : NotBusy s) (hh : s.hostHeld = true) {x y z : α} :
    (if s.busy = true then x else if s.hostHeld = true then y else z) = y := by
  rw [if_neg (by simp [show s.busy = false from hb]), if_pos hh]

/-- A `DECODE` of HOST that is held keeps every operation waiting (spec/41_codec.md R173). -/
theorem exec_op_held {s : State} (hb : NotBusy s) (hh : s.hostHeld = true) (opsel : BitVec 2) (arg : Operands) :
    ∃ opsel' arg', exec (decodeOp opsel arg) s = .next (s.postpone opsel' arg') := by
  unfold decodeOp
  split_ifs
  · exact ⟨_, _, ite_held hb hh⟩
  · exact ⟨_, _, congrArg Host.Outcome.next (ite_held hb hh)⟩
  · exact ⟨_, _, ite_held hb hh⟩
  · exact ⟨_, _, ite_held hb hh⟩

/-- On a free block the operation that `OPSEL` selects begins (spec/30_encoding.md R121). -/
theorem exec_op_free_effect {s u t : State} (hf : Free u) {opsel : BitVec 2} {arg : Operands}
    (hn : s.nextInput = some (.command opsel arg)) (h : exec (decodeOp opsel arg) u = .next t) :
    ∃ v, StepEffect s v t ∧ SameRegisters u v := by
  unfold decodeOp at h
  split_ifs at h with h0 h1 h2
  · simp only [exec, execCrc16, hf, Free.busy, Free.hostHeld] at h
    cases h
    exact ⟨_, .unchanged, rfl⟩
  · simp only [exec, execEncode, State.hostEncode, hf, Free.busy, Free.hostHeld] at h
    cases h
    by_cases he : encodable arg.fn arg.bytes = true
    · simp only [he]
      exact ⟨u, .encode hf _ _ he _, rfl⟩
    · simp only [he]
      exact ⟨_, .unchanged, rfl⟩
  · rw [exec_decode_free hf] at h
    cases h
    exact ⟨u.withReply .nothing, .decode hf.1, rfl⟩
  · obtain rfl : opsel = 0b11#2 := by bv_omega
    simp only [exec, execHsStart, hf, Free.busy, Free.hostHeld] at h
    cases h
    exact ⟨u, .start ⟨arg, hn⟩ hf _, rfl⟩

/-- An operation of HOST (spec/70_reset_and_hazards.md R278). -/
theorem exec_op_effect {s u t : State} {opsel : BitVec 2} {arg : Operands} (hn : s.nextInput = some (.command opsel arg))
    (h : exec (decodeOp opsel arg) u = .next t) : ∃ v, StepEffect s v t ∧ SameRegisters u v := by
  by_cases hb : u.busy = true
  · rw [exec_op_busy hb] at h
    cases h
    exact ⟨_, .unchanged, rfl⟩
  have hnb : NotBusy u := Bool.eq_false_iff.mpr hb
  by_cases hc : u.inFlight = none
  · exact exec_op_free_effect ⟨hnb, hc⟩ hn h
  · obtain ⟨_, _, he⟩ := exec_op_held hnb (hostHeld_of_held hnb hc) opsel arg
    rw [he] at h
    cases h
    exact ⟨_, .unchanged, rfl⟩

/-- Bytes that reach the block (spec/20_memory.md R83). -/
theorem receive_effect (s u : State) (bytes : List Byte) :
    ∃ v, StepEffect s v (u.receive bytes) ∧ SameRegisters u v := by
  refine ⟨u.deliver bytes, ?_, rfl⟩
  unfold State.receive State.stepReading
  split
  · split
    next hp => exact .awaitIdent hp
    next hp => exact .awaitConfirm hp
    next hp => exact atRest_effect (notBusy_of_idle hp)
    next hp => exact atRest_effect (notBusy_of_done hp)
    next => exact .unchanged
    next => exact .unchanged
  · exact .unchanged

/-- A frame that is read off the RX line is received, whatever its kind (spec/30_encoding.md R112, R114). -/
theorem exec_decodeInbound {bytes : List Byte} {i : Instr} (h : decodeInbound bytes = .ok i) (s : State) :
    ∃ bs, exec i s = .next (s.receive bs) := by
  unfold decodeInbound at h
  simp only at h
  split at h
  · repeat' split at h
    all_goals cases h
    all_goals exact ⟨_, rfl⟩
  · cases h

theorem Decoded.instr_eq_some {d : Decoded} {i : Instr} (h : d.instr = some i) : d = .ok i := by
  cases d <;> cases h
  rfl

/-- Everything one step can do. -/
theorem step_effect {s t : State} (h : step s = .next t) : ∃ u, StepEffect s u t ∧ SameRegisters s u := by
  obtain ⟨-, i, hi, hs⟩ | ⟨opsel, arg, hn, hs⟩ | ⟨bytes, -, hs⟩ | ⟨-, hs⟩ | ⟨hn, hs⟩ | ⟨e, -, hs⟩ | ⟨a, -, hs⟩ :=
    step_cases s <;> rw [hs] at h
  · exact ⟨s.popInput, exec_phase_effect hi h, rfl⟩
  · exact exec_op_effect (u := s.popInput) hn h
  · split at h
    next i hi =>
      obtain ⟨bs, hr⟩ := exec_decodeInbound (Decoded.instr_eq_some hi) s.popInput
      rw [hr] at h
      cases h
      exact receive_effect s s.popInput bs
    next =>
      cases h
      exact receive_effect s s.popInput bytes
  · cases h; exact ⟨_, .unchanged, rfl⟩
  · cases h; exact ⟨s.popInput, .reset hn, rfl⟩
  · cases h; exact ⟨_, .unchanged, rfl⟩
  · cases h; exact ⟨_, .unchanged, rfl⟩

end Sys2Proof.Machine
end

section
/-! SUPPORT. Each effect of a step keeps the invariant `Legal` (spec/10_state.md R24 to R35, R41). -/

namespace Sys2Proof.Machine

/-! ### Legal states in other surroundings and with other registers -/

theorem Legal.of_sameRegisters {s u : State} (h : Legal s) (hu : SameRegisters s u) : Legal u :=
  hu ▸ h.env u.rx u.rxEnd s.tx u.writeAnswers u.inbox u.reply s.draws u.acc

/-- Before a run, and as it begins, nothing has been received, built or found out. -/
theorem legal_of_fresh {s : State} (hp : s.phase = .idle ∨ s.phase = .awaitIdent) (ho : s.outcome = .none) (hc : s.cause = .none)
    (hd : s.discValid = false) (ht : s.txlen = 0#4) (hl : s.rxlen = 0#4) (hv : s.rxfValid = false) (hi : s.inFlight = none) :
    Legal s := by
  have hcall : s.callFits := by simp [State.callFits, hi]
  obtain hp | hp := hp <;> constructor <;> simp [hp, ho, hc, hd, ht, hl, hv, hcall, causeFits]

/-- A reset (spec/70_reset_and_hazards.md R270). -/
theorem resetBlock_legal (s : State) : Legal s.resetBlock :=
  legal_of_fresh (.inl rfl) rfl rfl rfl rfl rfl rfl rfl

/-- `HS.START` (spec/42_handshake.md R191). -/
theorem openSession_legal {s : State} (hi : s.inFlight = none) (target : Option Addr) : Legal (s.openSession target) :=
  legal_of_fresh (.inr rfl) rfl rfl rfl rfl rfl rfl hi

theorem Legal.withReply {s : State} (h : Legal s) (r : Reply) : Legal (s.withReply r) := h.of_sameRegisters rfl

/-! ### ENCODE -/

/-- What `ENCODE` builds has 7 to 11 bytes (spec/10_state.md R24). -/
theorem build_txlen (s : State) (fn : Byte) (addr : Addr) (da : DataAddr) {pl : List Byte} (hpl : pl.length ≤ 4) :
    (s.build fn addr da pl).txlen.toNat = 7 + pl.length := by
  simp [State.build]; omega

/-- `TXB` may be built anew while no write is in flight and none has been sent in this run. -/
theorem Legal.build {s : State} (h : Legal s) (hi : s.inFlight = none) (hp : s.phase ≠ .awaitConfirm) (fn : Byte) (addr : Addr)
    (da : DataAddr) {pl : List Byte} (hpl : pl.length ≤ 4) : Legal (s.build fn addr da pl) :=
  { h with
    txlen := by
      have hl := build_txlen s fn addr da hpl
      exact .inr ⟨by omega, by omega⟩
    commandSent := fun hp' => absurd hp' hp
    call := by simp [State.callFits, State.build, State.checksum, hi] }

/-- Outside a run the block is in none of the phases of one. -/
theorem NotBusy.phase {s : State} (hb : NotBusy s) : s.phase = .idle ∨ s.phase = .done := by
  unfold NotBusy State.busy at hb
  cases hp : s.phase <;> simp_all [Phase.inRun]

/-- `ENCODE` on behalf of HOST (spec/41_codec.md R160, R161). -/
theorem hostEncode_legal {s : State} (h : Legal s) (hf : Free s) {fn : Byte} (addr : Addr) (da : DataAddr) {pl : List Byte}
    (he : encodable fn pl = true) (r : Reply) : Legal ((s.build fn addr da pl).withReply r) := by
  have hp : s.phase ≠ .awaitConfirm := by rcases NotBusy.phase hf.1 with hp | hp <;> simp [hp]
  exact (h.build hf.2 hp fn addr da ((encodable_iff fn pl).mp he).1).withReply r

/-! ### DECODE -/

/-- What a `DECODE` leaves is legal if what it leaves in `RXB` and in flight is. -/
theorem Legal.withRxb {s : State} (h : Legal s) {rx : List Byte} {b : RxBuf} {l : BitVec 4} {v : Bool} {a : Crc} {c : Option Call}
    {n : Nat} (hl : LegalRxlen l)
    (hk : v = true → (l = 7#4 ∧ b.b3 = Config.fnRequest) ∨ (l = 8#4 ∧ b.b3 = Config.fnWrite))
    (hs : v = true → State.rxChecksum { s with rxb := b, rxlen := l } = crc16 (State.rxCovered { s with rxb := b, rxlen := l }))
    (hc : State.callFits { s with rxb := b, rxlen := l, rxfValid := v, inFlight := c }) :
    Legal { s with rx := rx, rxb := b, rxlen := l, rxfValid := v, acc := a, inFlight := c, draws := n } :=
  { h with rxlen := hl, frameKind := hk, frameChecksum := hs, call := hc }

/-- The state that an end of a `DECODE` leaves. -/
@[simp] def DecodeEnd.state : DecodeEnd → State
  | .frame _ t => t
  | .error _ t => t
  | .held t => t

/-- However a `DECODE` ends, and while it is held, the state stays legal (spec/41_codec.md R164 to R174). -/
theorem Legal.decodeLeaves {s : State} (h : Legal s) (hp1 : s.phase ≠ .identFound) (hp2 : s.phase ≠ .buildingWriteCommand)
    {d : DecodeEnd} (hd : DecodeLeaves s d) : Legal d.state := by
  match d, hd with
  | .frame f t, ⟨rest, b, l, a, ht, hf⟩ =>
    subst ht
    have hl : LegalRxlen l := by
      rcases hf.kind with ⟨hl, -⟩ | ⟨hl, -⟩
      · exact .inr (.inl hl)
      · exact .inr (.inr hl)
    exact h.withRxb hl (fun _ => hf.kind) (fun _ => hf.checked) trivial
  | .error e t, ⟨_, rest, b, l, a, n, hl, ht⟩ =>
    subst ht
    exact h.withRxb hl nofun nofun trivial
  | .held t, .inl ⟨rest, ht⟩ =>
    subst ht
    exact h.withRxb h.rxlen nofun nofun ⟨rfl, hp1, hp2, .inl rfl⟩
  | .held t, .inr ⟨rest, b, hb, ht⟩ =>
    subst ht
    exact h.withRxb (.inr (.inl rfl)) nofun nofun ⟨rfl, hp1, hp2, .inr ⟨rfl, rfl, hb⟩⟩

/-- From `s` to `t` nothing has changed but what a `DECODE` writes (spec/41_codec.md R164, R174). -/
def SameSession (s t : State) : Prop :=
  t = { s with
    rx := t.rx, rxb := t.rxb, rxlen := t.rxlen, rxfValid := t.rxfValid, acc := t.acc, inFlight := t.inFlight,
    draws := t.draws }

theorem DecodeLeaves.sameSession {s : State} {d : DecodeEnd} (hd : DecodeLeaves s d) : SameSession s d.state := by
  match d, hd with
  | .frame f t, ⟨rest, b, l, a, ht, _⟩ => subst ht; rfl
  | .error e t, ⟨_, rest, b, l, a, n, _, ht⟩ => subst ht; rfl
  | .held t, .inl ⟨rest, ht⟩ => subst ht; rfl
  | .held t, .inr ⟨rest, b, hb, ht⟩ => subst ht; rfl

section
variable {s t : State} (h : SameSession s t)
include h

theorem SameSession.phase : t.phase = s.phase := (congrArg State.phase h :)
theorem SameSession.disc : t.disc = s.disc := (congrArg State.disc h :)
theorem SameSession.discValid : t.discValid = s.discValid := (congrArg State.discValid h :)

end

theorem DecodeLeaves.inFlight_of_frame {s t : State} {f : Frame} (hd : DecodeLeaves s (.frame f t)) : t.inFlight = none := by
  obtain ⟨_, _, _, _, rfl, _⟩ := hd; rfl

theorem DecodeLeaves.frameHeld {s t : State} {f : Frame} (hd : DecodeLeaves s (.frame f t)) : FrameHeld t f := by
  obtain ⟨_, _, _, _, _, hf⟩ := hd; exact hf

theorem DecodeLeaves.inFlight_of_error {s t : State} {e : DecodeError} (hd : DecodeLeaves s (.error e t)) : t.inFlight = none := by
  obtain ⟨_, _, _, _, _, _, _, rfl⟩ := hd; rfl

/-- In `IdentFound` and `BuildingWriteCommand` the block reads nothing (spec/20_memory.md R68). -/
theorem Legal.not_read {s : State} (h : Legal s) (hp : s.phase = .identFound ∨ s.phase = .buildingWriteCommand) (n : Nat) :
    s.inFlight ≠ some (.read n) := by
  intro hi
  have hc := h.call
  rw [State.callFits, hi] at hc
  obtain ⟨-, hp1, hp2, -⟩ := hc
  exact hp.elim hp1 hp2

/-- In `IdentFound` no call is in flight. -/
theorem Legal.inFlight_of_identFound {s : State} (h : Legal s) (hp : s.phase = .identFound) : s.inFlight = none := by
  match hi : s.inFlight with
  | none => rfl
  | some (.read n) => exact absurd hi (h.not_read (.inl hp) n)
  | some (.write n) =>
    obtain ⟨-, hw, -⟩ := h.held_write hi
    exact nomatch hp.symm.trans hw

/-- In `BuildingWriteCommand` none is but the write of the command. -/
theorem Legal.inFlight_of_building {s : State} (h : Legal s) (hp : s.phase = .buildingWriteCommand)
    (hn : s.inFlight ≠ some (.write 10)) : s.inFlight = none := by
  match hi : s.inFlight with
  | none => rfl
  | some (.read n) => exact absurd hi (h.not_read (.inr hp) n)
  | some (.write n) =>
    obtain ⟨rfl, -, -⟩ := h.held_write hi
    exact absurd hi hn

/-- A `DECODE` on behalf of HOST writes no session register (spec/10_state.md R33). -/
theorem hostDecode_legal {s : State} (h : Legal s) (hb : NotBusy s) : Legal s.hostDecode := by
  have hp : s.phase ≠ .identFound ∧ s.phase ≠ .buildingWriteCommand := by rcases hb.phase with hp | hp <;> simp [hp]
  have hd := h.decodeLeaves hp.1 hp.2 (decodeRun_cases h.second)
  unfold State.hostDecode
  cases hr : s.decodeRun <;> rw [hr] at hd
  case frame => exact hd.withReply _
  case error => exact hd.withReply _
  case held => exact hd

/-! ### How a run ends -/

/-- The clauses of `Legal` about the result registers: `CAUSE` goes with `OUTCOME`, and the registers hold what the outcome
carries (spec/10_state.md R32 to R35). -/
structure ResultFits (s : State) : Prop where
  cause : causeFits s.outcome s.cause = true
  confirmed : s.outcome = .confirmed → s.rxAddr = s.target := by nofun
  rejectedAddress : s.outcome = .rejectedAddress → s.rxAddr ≠ s.target := by nofun
  rejectedFunction : s.outcome = .rejectedFunction → s.rxFn = Config.fnRequest := by nofun
  noChange : s.outcome = .noChange → s.targetValid = false := by nofun
  mismatch : s.cause = .checksumMismatch → s.crcRx ≠ s.crcCalc := by nofun
  unexpected : s.cause = .unexpectedFunction → extra s.rxFn = none := by nofun

/-- A run ends in a legal state if its result fits and `IdentFailed` is its outcome just when no address was discovered (R30). -/
theorem Legal.endRun {s : State} (h : Legal s) (hi : s.inFlight = none) {fn : Byte} {a : Addr} {r k : Crc} {o : OutcomeCode}
    {c : Cause} (ho : o ≠ .none) (hd : s.discValid = false ↔ o = .identFailed)
    (hr : ResultFits { s with rxFn := fn, rxAddr := a, crcRx := r, crcCalc := k, outcome := o, cause := c, phase := .done }) :
    Legal { s with rxFn := fn, rxAddr := a, crcRx := r, crcCalc := k, outcome := o, cause := c, phase := .done } :=
  { hr, h with
    outcome := by simp [ho]
    undiscovered := nofun
    discovered := nofun
    discoveredAtDone := fun _ => hd
    targeted := nofun
    commandSent := nofun
    call := by simp [State.callFits, hi] }

/-- What a decode error latches is what its outcome carries (spec/60_exceptions.md R230). -/
theorem failRun_resultFits (s : State) {e : DecodeError} (he : ErrorFits e) {o : OutcomeCode}
    (ho : o = .identFailed ∨ o = .confirmFailed) : ResultFits (s.failRun o e) := by
  cases e with
  | shortRead => rcases ho with rfl | rfl <;> exact { cause := rfl }
  | unexpectedFunction fn => rcases ho with rfl | rfl <;> exact { cause := rfl, unexpected := fun _ => he }
  | checksumMismatch received computed => rcases ho with rfl | rfl <;> exact { cause := rfl, mismatch := fun _ => he }

/-- A decode error ends the two steps that wait for a frame (spec/42_handshake.md R198, R208). -/
theorem failRun_legal {s : State} (h : Legal s) (hi : s.inFlight = none) {e : DecodeError} (he : ErrorFits e) {o : OutcomeCode}
    (ho : o = .identFailed ∨ o = .confirmFailed) (hd : s.discValid = false ↔ o = .identFailed) : Legal (s.failRun o e) := by
  have hn : o ≠ .none := by rcases ho with rfl | rfl <;> nofun
  have hr := failRun_resultFits s he ho
  cases e with
  | shortRead => exact h.endRun hi hn hd hr
  | unexpectedFunction fn => exact h.endRun hi hn hd hr
  | checksumMismatch received computed => exact h.endRun hi hn hd hr

/-! ### The steps of a run -/

/-- A frame in `AwaitIdent` gives the address (R195). -/
theorem acceptIdent_legal {s : State} (h : Legal s) (hp : s.phase = .awaitIdent) (hi : s.inFlight = none) (f : Frame) :
    Legal (s.acceptIdent f Config.identRequiresRequest) := by
  have ho : s.outcome = .none := h.outcome.mpr (by simp [hp])
  exact
    { h with
      outcome := by simp [State.acceptIdent, Config.identRequiresRequest, ho]
      undiscovered := nofun
      discovered := fun _ => rfl
      discoveredAtDone := nofun
      targeted := nofun
      commandSent := nofun
      call := by simp [State.acceptIdent, Config.identRequiresRequest, State.callFits, hi] }

/-- `AwaitIdent` (R195 to R198). -/
theorem stepAwaitIdent_legal {s : State} (h : Legal s) (hp : s.phase = .awaitIdent) : Legal s.stepAwaitIdent := by
  have hc := decodeRun_cases h.second
  have hl := h.decodeLeaves (by simp [hp]) (by simp [hp]) hc
  have hs := hc.sameSession
  unfold State.stepAwaitIdent
  cases hr : s.decodeRun <;> rw [hr] at hc hl hs
  case frame f t => exact acceptIdent_legal hl (hs.phase.trans hp) hc.inFlight_of_frame f
  case error e t =>
    have hd : t.discValid = false := hs.discValid.trans (h.undiscovered (.inr hp))
    exact failRun_legal hl hc.inFlight_of_error hc.1 (.inl rfl) (by simp [hd])
  case held t => exact hl

/-- A run goes on to its next step. -/
theorem Legal.enter {s : State} (h : Legal s) (hi : s.inFlight = none) (ho : s.outcome = .none) (hd : s.discValid = true)
    (ht : s.targetValid = true) {p : Phase}
    (hp : p = .buildingWriteCommand ∨ p = .awaitConfirm ∧ s.txBytes = commandBytes s.target) : Legal (s.enter p) :=
  { h with
    outcome := by rcases hp with rfl | ⟨rfl, -⟩ <;> simp [ho]
    undiscovered := by rcases hp with rfl | ⟨rfl, -⟩ <;> nofun
    discovered := fun _ => hd
    discoveredAtDone := by rcases hp with rfl | ⟨rfl, -⟩ <;> nofun
    targeted := fun _ => ht
    commandSent := by
      rcases hp with rfl | ⟨rfl, hb⟩
      · nofun
      · exact fun _ => hb
    call := by simp [State.callFits, hi] }

/-- `IdentFound` (R199). -/
theorem stepIdentFound_legal {s : State} (h : Legal s) (hp : s.phase = .identFound) : Legal s.stepIdentFound := by
  have hd : s.discValid = true := h.discovered (.inl hp)
  have ho : s.outcome = .none := h.outcome.mpr (by simp [hp])
  have hi : s.inFlight = none := h.inFlight_of_identFound hp
  unfold State.stepIdentFound
  split
  next ht => exact h.enter hi ho hd ht (.inl rfl)
  next ht => exact h.endRun hi nofun (by simp [hd]) { cause := rfl, noChange := fun _ => Bool.eq_false_iff.mpr ht }

/-- A `CONFIRM` frame's evaluation (R205 to R207). -/
theorem judgeConfirm_legal {s : State} (h : Legal s) (hp : s.phase = .awaitConfirm) (hi : s.inFlight = none) {f : Frame}
    (hf : FrameHeld s f) : Legal (s.judgeConfirm f) := by
  have hd : s.discValid = true := h.discovered (.inr (.inr hp))
  unfold State.judgeConfirm
  split_ifs with hfn ha
  · have hfn' : f.function = Config.fnRequest := by
      rw [← hf.view] at hfn ⊢
      obtain ⟨-, h4⟩ | ⟨-, h2⟩ := hf.kind
      · exact h4
      · exact absurd h2 hfn
    exact h.endRun hi nofun (by simp [hd]) { cause := rfl, rejectedFunction := fun _ => hfn' }
  · exact h.endRun hi nofun (by simp [hd]) { cause := rfl, rejectedAddress := fun _ => ha }
  · exact h.endRun hi nofun (by simp [hd]) { cause := rfl, confirmed := fun _ => not_not.mp ha }

/-- `AwaitConfirm` (R205 to R209). -/
theorem stepAwaitConfirm_legal {s : State} (h : Legal s) (hp : s.phase = .awaitConfirm) : Legal s.stepAwaitConfirm := by
  have hc := decodeRun_cases h.second
  have hl := h.decodeLeaves (by simp [hp]) (by simp [hp]) hc
  have hs := hc.sameSession
  unfold State.stepAwaitConfirm
  cases hr : s.decodeRun <;> rw [hr] at hc hl hs
  case frame f t => exact judgeConfirm_legal hl (hs.phase.trans hp) hc.inFlight_of_frame hc.frameHeld
  case error e t =>
    have hd : t.discValid = true := hs.discValid.trans (h.discovered (.inr (.inr hp)))
    exact failRun_legal hl hc.inFlight_of_error hc.1 (.inr rfl) (by simp [hd])
  case held t => exact hl

/-- TRANSPORT's answer to the write ends the call (spec/20_memory.md R67). -/
theorem Legal.answered {s : State} (h : Legal s) (tx : List Byte) (as : List WriteAnswer) (n : Nat) :
    Legal { s with tx := tx, writeAnswers := as, inFlight := none, draws := n } :=
  { h with call := trivial }

/-- The write of the command, which stands in `TXB` (R201, R202). -/
theorem sendBuilt_legal {s : State} (h : Legal s) (hp : s.phase = .buildingWriteCommand)
    (hb : s.txBytes = commandBytes s.target) : Legal s.sendBuilt := by
  have hd : s.discValid = true := h.discovered (.inr (.inl hp))
  have ho : s.outcome = .none := h.outcome.mpr (by simp [hp])
  match ha : s.writeAnswers with
  | .ok :: as =>
    rw [sendBuilt_ok hb ha]
    exact (h.answered _ as _).enter rfl ho hd (h.targeted (.inl hp)) (.inr ⟨rfl, hb⟩)
  | .writeError :: as =>
    rw [sendBuilt_failed hb ha]
    exact (h.answered _ as _).endRun rfl nofun (by simp [hd]) { cause := rfl }
  | [] =>
    rw [sendBuilt_held hb ha]
    exact { h with call := ⟨length_commandBytes _, hp, hb⟩ }

/-- `BuildingWriteCommand` (R200, R201). -/
theorem sendCommand_legal {s : State} (h : Legal s) (hp : s.phase = .buildingWriteCommand) : Legal (s.sendCommand s.target) := by
  unfold State.sendCommand
  split
  next hi =>
    obtain ⟨-, -, hb⟩ := h.held_write hi
    exact sendBuilt_legal h hp hb
  next hi =>
    have hpl : (commandPayload s.target).length ≤ 4 := by simp [commandPayload]
    have hl := h.build (h.inFlight_of_building hp hi) (by simp [hp]) Config.fnWrite Config.broadcast Config.writeCmdDataAddr hpl
    exact sendBuilt_legal hl hp (txBytes_build s _ _ _ hpl)

/-- Every effect of a step keeps the invariant. -/
theorem StepEffect.legal {s u t : State} (e : StepEffect s u t) (h : Legal u) : Legal t := by
  cases e with
  | unchanged => exact h
  | reset _ => exact resetBlock_legal u
  | start _ hf target => exact openSession_legal hf.2 target
  | encode hf addr da he r => exact hostEncode_legal h hf addr da he r
  | decode hb => exact hostDecode_legal h hb
  | awaitIdent hp => exact stepAwaitIdent_legal h hp
  | identFound hp => exact stepIdentFound_legal h hp
  | buildingWriteCommand hp => exact sendCommand_legal h hp
  | awaitConfirm hp => exact stepAwaitConfirm_legal h hp

/-- Settles O56: a step has one of the effects of `StepEffect`, from registers that are still legal, and each keeps them so. -/
theorem stepKeepsLegal : Obligations.StepKeepsLegal := by
  intro s t h hs
  obtain ⟨u, he, hu⟩ := step_effect hs
  exact he.legal (h.of_sameRegisters hu)

/-- Settles O55: what a reset leaves is legal, and the state after reset is one. -/
theorem resetIsLegal : Obligations.ResetIsLegal :=
  resetBlock_legal { State.reset with draws := 0 }

end Sys2Proof.Machine
end

section
/-! SUPPORT. What each effect of a step makes of the discovered address (spec/10_state.md R30). -/

namespace Sys2Proof.Machine

theorem discovered_eq_some {s : State} {a : Addr} : s.discovered = some a ↔ s.discValid = true ∧ s.disc = a := by
  simp [State.discovered]

theorem discovered_congr {s t : State} (hv : t.discValid = s.discValid) (hd : t.disc = s.disc) : t.discovered = s.discovered := by
  rw [State.discovered, State.discovered, hv, hd]

theorem DecodeLeaves.discovered {s : State} {d : DecodeEnd} (hd : DecodeLeaves s d) : d.state.discovered = s.discovered :=
  discovered_congr hd.sameSession.discValid hd.sameSession.disc

theorem failRun_discovered (s : State) (o : OutcomeCode) (e : DecodeError) : (s.failRun o e).discovered = s.discovered := by
  cases e <;> rfl

theorem judgeConfirm_discovered (s : State) (f : Frame) : (s.judgeConfirm f).discovered = s.discovered := by
  unfold State.judgeConfirm
  split_ifs <;> rfl

theorem hostDecode_discovered {s : State} (h : StageFits s) : s.hostDecode.discovered = s.discovered := by
  have hd := (decodeRun_cases h).discovered
  unfold State.hostDecode
  cases hr : s.decodeRun <;> rw [hr] at hd <;> exact hd

theorem stepIdentFound_discovered (s : State) : s.stepIdentFound.discovered = s.discovered := by
  unfold State.stepIdentFound
  split <;> rfl

theorem sendBuilt_discovered (s : State) : s.sendBuilt.discovered = s.discovered := by
  match ha : s.writeAnswers with
  | .ok :: as => rw [sendBuilt_ok rfl ha]; rfl
  | .writeError :: as => rw [sendBuilt_failed rfl ha]; rfl
  | [] => rw [sendBuilt_held rfl ha]; rfl

theorem sendCommand_discovered (s : State) (target : Addr) : (s.sendCommand target).discovered = s.discovered := by
  unfold State.sendCommand
  split <;> exact sendBuilt_discovered _

theorem stepAwaitConfirm_discovered {s : State} (h : StageFits s) : s.stepAwaitConfirm.discovered = s.discovered := by
  have hd := (decodeRun_cases h).discovered
  unfold State.stepAwaitConfirm
  cases hr : s.decodeRun <;> rw [hr] at hd
  case frame f t => exact (judgeConfirm_discovered t f).trans hd
  case error e t => exact (failRun_discovered t _ e).trans hd
  case held t => exact hd

/-- Only `AwaitIdent`, where no address is there yet, a new run and a reset write the discovered address. -/
theorem StepEffect.discovered {s u t : State} (e : StepEffect s u t) (h : Legal u) (hv : u.discValid = true) :
    t.discovered = u.discovered ∨ (s.startNext ∧ NotBusy u) ∨ s.resetNext := by
  cases e with
  | unchanged => exact .inl rfl
  | reset hn => exact .inr (.inr hn)
  | start hn hf _ => exact .inr (.inl ⟨hn, hf.1⟩)
  | encode => exact .inl rfl
  | decode => exact .inl (hostDecode_discovered h.second)
  | awaitIdent hp => rw [h.undiscovered (.inr hp)] at hv; cases hv
  | identFound => exact .inl (stepIdentFound_discovered u)
  | buildingWriteCommand => exact .inl (sendCommand_discovered u u.target)
  | awaitConfirm => exact .inl (stepAwaitConfirm_discovered h.second)

section
variable {s u : State} (h : SameRegisters s u)
include h

theorem SameRegisters.busy : u.busy = s.busy := (congrArg State.busy h :)
theorem SameRegisters.disc : u.disc = s.disc := (congrArg State.disc h :)
theorem SameRegisters.discValid : u.discValid = s.discValid := (congrArg State.discValid h :)

end

/-- Settles O44: no effect of a step writes an address that is there, but those of a new run and of a reset. -/
theorem discoveredAddressIsKept : Obligations.DiscoveredAddressIsKept := by
  intro s t h hs hv
  obtain ⟨u, he, hu⟩ := step_effect hs
  have hkept := he.discovered (h.of_sameRegisters hu) (hu.discValid.trans hv)
  rw [discovered_congr hu.discValid hu.disc] at hkept
  obtain hk | ⟨hn, hb⟩ | hn := hkept
  · exact .inl (discovered_eq_some.mp (hk.trans (discovered_eq_some.mpr ⟨hv, rfl⟩)))
  · exact .inr (.inl ⟨hn, hu.busy.symm.trans hb⟩)
  · exact .inr (.inr hn)

/-- Settles O4: the codes and the steps they select are read off the two tables, and 6 and 7 stand in neither. -/
theorem phaseCodesSelectTheirSteps : Obligations.PhaseCodesSelectTheirSteps := by
  refine ⟨by decide, ?_, by decide, ?_, ?_⟩
  · intro p
    cases p <;> rfl
  · exact fun i h => nomatch (show Decoded.rejected (.unassignedPhase 6#3) = .ok i from h)
  · exact fun i h => nomatch (show Decoded.rejected (.unassignedPhase 7#3) = .ok i from h)

end Sys2Proof.Machine
end

section
/-! SUPPORT. What each effect of a step makes of the TX history: it stays, or it grows by an initial part of the one command
(spec/20_memory.md R61, R67; spec/42_handshake.md R201, R202). -/

namespace Sys2Proof.Machine

theorem SameSession.tx {s t : State} (h : SameSession s t) : t.tx = s.tx := (congrArg State.tx h :)

theorem decodeRun_tx {s : State} (h : StageFits s) : s.decodeRun.state.tx = s.tx := (decodeRun_cases h).sameSession.tx

theorem failRun_tx (s : State) (o : OutcomeCode) (e : DecodeError) : (s.failRun o e).tx = s.tx := by
  cases e <;> rfl

theorem acceptIdent_tx (s : State) (f : Frame) (requiresRequest : Bool) : (s.acceptIdent f requiresRequest).tx = s.tx := by
  unfold State.acceptIdent
  split_ifs
  · exact failRun_tx s _ _
  · rfl

theorem judgeConfirm_tx (s : State) (f : Frame) : (s.judgeConfirm f).tx = s.tx := by
  unfold State.judgeConfirm
  split_ifs <;> rfl

theorem hostDecode_tx {s : State} (h : StageFits s) : s.hostDecode.tx = s.tx := by
  have hd := decodeRun_tx h
  unfold State.hostDecode
  cases hr : s.decodeRun <;> rw [hr] at hd <;> exact hd

theorem stepAwaitIdent_tx {s : State} (h : StageFits s) : s.stepAwaitIdent.tx = s.tx := by
  have hd := decodeRun_tx h
  unfold State.stepAwaitIdent
  cases hr : s.decodeRun <;> rw [hr] at hd
  case frame f t => exact (acceptIdent_tx t f _).trans hd
  case error e t => exact (failRun_tx t _ e).trans hd
  case held t => exact hd

theorem stepIdentFound_tx (s : State) : s.stepIdentFound.tx = s.tx := by
  unfold State.stepIdentFound
  split <;> rfl

theorem stepAwaitConfirm_tx {s : State} (h : StageFits s) : s.stepAwaitConfirm.tx = s.tx := by
  have hd := decodeRun_tx h
  unfold State.stepAwaitConfirm
  cases hr : s.decodeRun <;> rw [hr] at hd
  case frame f t => exact (judgeConfirm_tx t f).trans hd
  case error e t => exact (failRun_tx t _ e).trans hd
  case held t => exact hd

/-- From `s` to `t` the TX history has grown by an initial part of the command for `TARGET`, and by all of it if the run goes on
(spec/20_memory.md R67, R72). -/
def SendsCommandPart (s t : State) : Prop :=
  ∃ k, t.tx = s.tx ++ (commandBytes s.target).take k ∧ (t.phase = .awaitConfirm → k = 10)

/-- The write of the command that stands in `TXB`, on each of TRANSPORT's three answers (spec/42_handshake.md R201, R202). -/
theorem sendBuilt_sends {s : State} (hp : s.phase = .buildingWriteCommand) (hb : s.txBytes = commandBytes s.target) :
    SendsCommandPart s s.sendBuilt := by
  match ha : s.writeAnswers with
  | .ok :: as =>
    rw [sendBuilt_ok hb ha]
    have hall : (commandBytes s.target).take 10 = commandBytes s.target := List.take_of_length_le (by simp)
    exact ⟨10, by rw [hall], fun _ => rfl⟩
  | .writeError :: as =>
    rw [sendBuilt_failed hb ha]
    exact ⟨_, rfl, nofun⟩
  | [] =>
    rw [sendBuilt_held hb ha]
    exact ⟨0, (List.append_nil s.tx).symm, fun hp' => nomatch hp.symm.trans hp'⟩

/-- `BuildingWriteCommand` sends from a built command, or from one that it has built before (R200, R201). -/
theorem sendCommand_sends {s : State} (h : Legal s) (hp : s.phase = .buildingWriteCommand) :
    SendsCommandPart s (s.sendCommand s.target) := by
  unfold State.sendCommand
  split
  next hi =>
    obtain ⟨-, -, hb⟩ := h.held_write hi
    exact sendBuilt_sends hp hb
  next =>
    have hb := txBytes_build s Config.fnWrite Config.broadcast Config.writeCmdDataAddr (pl := commandPayload s.target)
      (by simp [commandPayload])
    exact sendBuilt_sends (s := s.build _ _ _ _) hp hb

/-- Only `BuildingWriteCommand` sends. -/
theorem StepEffect.sends {s u t : State} (e : StepEffect s u t) (h : Legal u) :
    t.tx = u.tx ∨ (u.phase = .buildingWriteCommand ∧ SendsCommandPart u t) := by
  cases e with
  | unchanged => exact .inl rfl
  | reset => exact .inl rfl
  | start => exact .inl rfl
  | encode => exact .inl rfl
  | decode => exact .inl (hostDecode_tx h.second)
  | awaitIdent => exact .inl (stepAwaitIdent_tx h.second)
  | identFound => exact .inl (stepIdentFound_tx u)
  | buildingWriteCommand hp => exact .inr ⟨hp, sendCommand_sends h hp⟩
  | awaitConfirm => exact .inl (stepAwaitConfirm_tx h.second)

section
variable {s u : State} (h : SameRegisters s u)
include h

theorem SameRegisters.tx : u.tx = s.tx := (congrArg State.tx h :)
theorem SameRegisters.phase : u.phase = s.phase := (congrArg State.phase h :)
theorem SameRegisters.target : u.target = s.target := (congrArg State.target h :)

end

/-- Settles O43: of the effects of a step only the one of `BuildingWriteCommand` sends, and what it sends is the command in `TXB`. -/
theorem onlyTheCommandIsSent : Obligations.OnlyTheCommandIsSent := by
  intro s t h hs
  obtain ⟨u, he, hu⟩ := step_effect hs
  have hsent := he.sends (h.of_sameRegisters hu)
  rwa [SendsCommandPart, hu.tx, hu.phase, hu.target] at hsent

end Sys2Proof.Machine
end

section
/-! SUPPORT. A `DECODE` of HOST on a stream that stalls (spec/20_memory.md R66). -/

namespace Sys2Proof.Machine

/-- HOST's reply plays no part in a hold. -/
theorem HeldReading.withReply {s t : State} {r : Reply} (h : HeldReading (s.withReply r) t) :
    HeldReading s (t.withReply s.reply) :=
  ⟨(congrArg (State.withReply · s.reply) h.1 :), h.2⟩

theorem HeldReading.reply {s t : State} (h : HeldReading s t) : t.reply = s.reply := (congrArg State.reply h.1 :)

/-- On a free block whose stream holds a `DECODE`, one of HOST is held and HOST has nothing (spec/41_codec.md R179 (c)). -/
theorem exec_decode_held {s : State} (hf : Free s) (hs : decodeStream s.rx s.rxEnd = .held) :
    ∃ t, exec .decode s = .next { t with reply := .nothing } ∧ HeldReading s t := by
  have hn : (s.withReply .nothing).inFlight ≠ some (.read 1) := hf.notExtra
  obtain ⟨t, ht, hh, -⟩ := decodeRun_held (stageFits_of_notExtra hn) ((decodeBytes_notExtra hn).symm ▸ hs)
  have hr : t.reply = .nothing := hh.reply
  refine ⟨t.withReply s.reply, ?_, hh.withReply⟩
  rw [exec_decode_free hf, State.hostDecode, ht, ← hr]
  rfl

/-- Settles O20: a stream cut short of its frame runs out, and one that stalls there holds the `DECODE`. -/
theorem decodeIsHeldByAStall : Obligations.DecodeIsHeldByAStall := by
  intro s hf he hcut
  have hs : decodeStream s.rx s.rxEnd = .held := by rw [decodeStream_cut hcut, he]; rfl
  exact exec_decode_held hf hs

end Sys2Proof.Machine
end

section
/-! SUPPORT. What bytes that reach the block do, as it reads and as it does not (spec/20_memory.md R82, R83). -/

namespace Sys2Proof.Machine

/-- Where no `DECODE` takes them, bytes wait at the end of the stream. -/
theorem receive_of_not_reading {s : State} (h : s.reading = false) (bytes : List Byte) : s.receive bytes = s.deliver bytes := by
  rw [State.receive, h]; rfl

/-- Where a `DECODE` takes them, the step goes on with them in the stream. -/
theorem receive_of_reading {s : State} (h : s.reading = true) (bytes : List Byte) :
    s.receive bytes = (s.deliver bytes).stepReading := by
  rw [State.receive, if_pos h]

/-- The step of a reading block is the one that `PHASE` selects (spec/42_handshake.md R194). -/
theorem exec_phase_of_reading {s : State} {i : Instr} (h : s.reading = true) (hi : decode (.phase s.phase.code) = .ok i) :
    exec i s = .next s.stepReading := by
  unfold State.reading at h
  unfold State.stepReading
  cases hp : s.phase <;> rw [hp] at h hi <;> cases hi
  case idle => rfl
  case awaitIdent => rfl
  case identFound => cases h
  case buildingWriteCommand => cases h
  case awaitConfirm => rfl
  case done => rfl

/-- A reading block that bytes reach does what its phase does with them at the end of the stream. -/
theorem receive_eq_exec_phase {s : State} {i : Instr} (h : s.reading = true) (hi : decode (.phase s.phase.code) = .ok i)
    (bytes : List Byte) : .next (s.receive bytes) = exec i (s.deliver bytes) := by
  rw [receive_of_reading h, exec_phase_of_reading (s := s.deliver bytes) h hi]

/-- Settles O48: each inbound kind is received, byte for byte, by a block that is not reading. -/
theorem earlyFramesWait : Obligations.EarlyFramesWait := by
  intro s start addr da p pl c h
  have waits (bytes : List Byte) : (.next (s.receive bytes) : Host.Outcome State Fault Refusal) = .next (s.deliver bytes) :=
    congrArg _ (receive_of_not_reading h bytes)
  exact ⟨waits _, waits _, waits _, waits _⟩

/-- Settles O49: each inbound kind is received, byte for byte, by a reading block, which takes the step of its phase. -/
theorem arrivingFrameGoesOnWithTheDecode : Obligations.ArrivingFrameGoesOnWithTheDecode := by
  intro s i start addr da p pl c h hi
  have goesOn := receive_eq_exec_phase h hi
  exact ⟨goesOn _, goesOn _, goesOn _, goesOn _⟩

end Sys2Proof.Machine
end

section
/-! SUPPORT. The frames' decoder is the inverse of their encoder, in both directions (spec/30_encoding.md R102 to R106). -/

namespace Sys2Proof

open Sys2Proof.Machine

@[simp] theorem length_checksumBytes (c : Crc) : (checksumBytes c).length = 2 := rfl

/-- The header of the write-address command (R105). -/
theorem headerBytes_command :
    headerBytes Config.startMarker Config.broadcast Config.fnWrite Config.writeCmdDataAddr =
      [0x55#8, 0x00#8, 0x00#8, 0x02#8, 0x00#8] := rfl

/-! ### Decoding a frame that was encoded -/

/-- A payload and a checksum are split where they were joined (R100). -/
theorem splitTail_append_checksumBytes {pl : List Byte} (c : Crc) (h : pl.length ≤ 4) :
    splitTail (pl ++ checksumBytes c) = some (pl, c) :=
  (splitTail_eq (loByte c) (hiByte c) h).trans (by rw [le16_lo_hi])

theorem decodeInbound_ident (start : Byte) (addr : Addr) (da : DataAddr) (c : Crc) :
    decodeInbound (frameBytes start addr Config.fnRequest da [] c) = .ok (.ident start addr da c) := by
  simp [frameBytes, headerBytes, checksumBytes, decodeInbound, identRow_selects, Config.minFrameLen]

theorem decodeInbound_confirm (start : Byte) (addr : Addr) (da : DataAddr) (p : Byte) (c : Crc) :
    decodeInbound (frameBytes start addr Config.fnWrite da [p] c) = .ok (.confirm start addr da p c) := by
  simp [frameBytes, headerBytes, checksumBytes, decodeInbound, identRow_selects, confirmRow_selects, Config.minFrameLen,
    Config.fnWrite, Config.fnRequest]

theorem decodeInbound_frameRead (start : Byte) (addr : Addr) (da : DataAddr) {pl : List Byte} (c : Crc)
    (h : pl.length ≤ 4) :
    decodeInbound (frameBytes start addr Config.fnRead da pl c) = .ok (.frameRead start addr da pl c) := by
  have hs := splitTail_append_checksumBytes c h
  simp [frameBytes, headerBytes, decodeInbound, hs, identRow_selects, confirmRow_selects, frameReadRow_selects,
    Config.minFrameLen, Config.fnRead, Config.fnWrite, Config.fnRequest]

theorem decodeInbound_frameControl (start : Byte) (addr : Addr) (da : DataAddr) {pl : List Byte} (c : Crc)
    (h : pl.length ≤ 4) :
    decodeInbound (frameBytes start addr Config.fnControl da pl c) = .ok (.frameControl start addr da pl c) := by
  have hs := splitTail_append_checksumBytes c h
  simp [frameBytes, headerBytes, decodeInbound, hs, identRow_selects, confirmRow_selects, frameReadRow_selects,
    frameControlRow_selects, Config.minFrameLen, Config.fnRead, Config.fnWrite, Config.fnRequest, Config.fnControl]

theorem decodeOutbound_command (target : Addr) (c : Crc) :
    decodeOutbound (frameBytes Config.startMarker Config.broadcast Config.fnWrite Config.writeCmdDataAddr
      (commandPayload target) c) = .ok (.setAddr target c) := by
  simp [frameBytes, headerBytes_command, checksumBytes, commandPayload, decodeOutbound, setAddrRow_selects]

/-- Settles O2, by the cases of the instruction: an operation and a phase are their code, and each frame kind is read off
the bytes it is put into. -/
theorem decodeEncodeRoundTrip : Obligations.DecodeEncodeRoundTrip := by
  intro i h
  cases i with
  | crc16 | encode | decode | hsStart => rfl
  | idle | awaitIdent | identFound | buildingWriteCommand | awaitConfirm | done => rfl
  | ident start addr da c => exact decodeInbound_ident start addr da c
  | confirm start addr da p c => exact decodeInbound_confirm start addr da p c
  | setAddr target c => exact decodeOutbound_command target c
  | frameRead start addr da pl c => exact decodeInbound_frameRead start addr da c (of_decide_eq_true h)
  | frameControl start addr da pl c => exact decodeInbound_frameControl start addr da c (of_decide_eq_true h)

/-- Settles O1: each word is the code of the instruction it stands for, so it decodes to that. -/
theorem writtenWordsDecode : Obligations.WrittenWordsDecode :=
  have reads := decodeEncodeRoundTrip
  ⟨reads (.crc16 _) rfl, reads (.encode _ _ _ _) rfl, reads .decode rfl, reads (.hsStart _) rfl, reads .awaitIdent rfl,
    reads .buildingWriteCommand rfl, reads (.ident 0x55#8 0x1234#16 0x00#8 0xF984#16) rfl,
    reads (.confirm 0x55#8 0x2000#16 0x00#8 0x02#8 0xDF27#16) rfl, decodeOutbound_command 0x2000#16 0xD05C#16,
    reads (.frameRead 0x55#8 0x00AB#16 0x10#8 [0x01#8] 0x06B4#16) rfl,
    reads (.frameControl 0x55#8 0x1234#16 0x00#8 [] 0xC986#16) rfl⟩

/-! ### Encoding what a frame decodes to -/

theorem encode_of_decodeInbound {bytes : List Byte} {i : Instr} (h : decodeInbound bytes = .ok i) :
    encode i = .frame .inbound bytes := by
  unfold decodeInbound at h
  split at h
  next b0 b1 b2 b3 b4 tail =>
    simp only [identRow_selects, confirmRow_selects, frameReadRow_selects, frameControlRow_selects, decide_eq_true_eq] at h
    split_ifs at h with _ h4 h2 h1 h3
    · split at h <;> cases h
      simp [encode, frameBytes, headerBytes, checksumBytes, h4]
    · split at h <;> cases h
      simp [encode, frameBytes, headerBytes, checksumBytes, h2]
    · split at h <;> cases h
      next hs => simp [encode, frameBytes, headerBytes, checksumBytes, splitTail_some hs, h1]
    · split at h <;> cases h
      next hs => simp [encode, frameBytes, headerBytes, checksumBytes, splitTail_some hs, h3]
  next => cases h

theorem encode_of_decodeOutbound {bytes : List Byte} {i : Instr} (h : decodeOutbound bytes = .ok i) :
    encode i = .frame .outbound bytes := by
  unfold decodeOutbound at h
  split at h
  next b0 b1 b2 b3 b4 p q r c d =>
    split_ifs at h with hsel
    cases h
    simp only [setAddrRow_selects, Bool.and_eq_true, decide_eq_true_eq] at hsel
    obtain ⟨⟨rfl, rfl, rfl, rfl, rfl⟩, rfl⟩ := hsel
    simp [encode, frameBytes, headerBytes_command, checksumBytes, commandPayload]
  next => cases h

/-- Settles O3: each decoder has only read the fields that the encoder writes. -/
theorem frameWordsHaveOneMeaning : Obligations.FrameWordsHaveOneMeaning := by
  intro dir bytes i h
  cases dir with
  | inbound => exact encode_of_decodeInbound h
  | outbound => exact encode_of_decodeOutbound h

/-- The 252 codes that are no function select no row (R113). -/
theorem decodeInbound_unassigned {fn : Byte} (h1 : fn ≠ 1#8) (h2 : fn ≠ 2#8) (h3 : fn ≠ 3#8) (h4 : fn ≠ 4#8)
    (b0 b1 b2 b4 : Byte) {tail : List Byte} (ht : 2 ≤ tail.length) :
    decodeInbound (b0 :: b1 :: b2 :: fn :: b4 :: tail) = .rejected (.unassignedFunction fn) := by
  have hl : ¬ tail.length + 5 < 7 := by omega
  simp [decodeInbound, identRow_selects, confirmRow_selects, frameReadRow_selects, frameControlRow_selects,
    Config.minFrameLen, Config.fnRead, Config.fnWrite, Config.fnRequest, Config.fnControl, h1, h2, h3, h4, hl]

/-- Settles O5: what the bytes decode to encodes to them, so its fields are theirs and its kind has their function byte. -/
theorem functionByteSelectsInboundKind : Obligations.FunctionByteSelectsInboundKind := by
  intro b0 b1 b2 fn b4 tail ht
  refine ⟨fun i hi => ?_, fun h1 h2 h3 h4 => decodeInbound_unassigned h1 h2 h3 h4 b0 b1 b2 b4 ht⟩
  have he : encode i = .frame .inbound (b0 :: b1 :: b2 :: fn :: b4 :: tail) := encode_of_decodeInbound hi
  cases i <;> simp [encode, frameBytes, headerBytes] at he
  case ident => obtain ⟨rfl, rfl, rfl, rfl, rfl, -⟩ := he; simp [Config.fnRequest]
  case confirm => obtain ⟨rfl, rfl, rfl, rfl, rfl, -⟩ := he; simp [Config.fnWrite]
  case frameRead => obtain ⟨rfl, rfl, rfl, rfl, rfl, -⟩ := he; simp [Config.fnRead]
  case frameControl => obtain ⟨rfl, rfl, rfl, rfl, rfl, -⟩ := he; simp [Config.fnControl]

end Sys2Proof
end

section
/-! SUPPORT. The two waiting steps of a run, by how the `DECODE` in them ends, by themselves and as bytes reach the block
(spec/42_handshake.md R195 to R198, R205 to R208). -/

namespace Sys2Proof.Machine

/-- A run that ends on a decode error, right after the failed `DECODE` (R198, R208). -/
theorem endsOn_failRun (s : State) (o : OutcomeCode) (e : DecodeError) (rest : List Byte) (b : RxBuf) (l : BitVec 4) (a : Crc)
    (n : Nat) :
    EndsOn s (State.failRun { s with rx := rest, rxb := b, rxlen := l, rxfValid := false, acc := a, inFlight := none,
                                     draws := n } o e) o e := by
  cases e with
  | shortRead => exact ⟨rfl, rfl, rfl, rfl, ⟨rfl, rfl, rfl, rfl⟩, rfl⟩
  | unexpectedFunction fn => exact ⟨rfl, rfl, rfl, rfl, ⟨rfl, rfl, rfl, rfl⟩, rfl⟩
  | checksumMismatch r c => exact ⟨rfl, rfl, rfl, rfl, ⟨rfl, rfl, rfl, rfl⟩, rfl⟩

theorem failRun_rx (s : State) (o : OutcomeCode) (e : DecodeError) : (s.failRun o e).rx = s.rx := by
  cases e <;> rfl

section
variable {s : State} {rest : List Byte} (h : StageFits s)
include h

/-- A frame that `AwaitIdent` reads gives the address, whatever its function (R195, R197). -/
theorem stepAwaitIdent_frame {f : Frame} (hs : decodeStream s.decodeBytes s.rxEnd = .frame f rest) :
    ∃ t, Returns s t f rest ∧
      s.stepAwaitIdent = { t with disc := f.deviceAddr, discValid := true, phase := .identFound } := by
  obtain ⟨t, ht, hr, -⟩ := decodeRun_frame h hs
  exact ⟨t, hr, by rw [State.stepAwaitIdent, ht]; rfl⟩

theorem stepAwaitIdent_error {e : DecodeError} (hs : decodeStream s.decodeBytes s.rxEnd = .error e rest) :
    EndsOn s s.stepAwaitIdent .identFailed e ∧ s.stepAwaitIdent.rx = rest := by
  obtain ⟨b, l, a, n, -, ht⟩ := decodeRun_error h hs
  rw [State.stepAwaitIdent, ht]
  exact ⟨endsOn_failRun .., failRun_rx ..⟩

/-- A frame that `AwaitConfirm` reads is judged (R205). -/
theorem stepAwaitConfirm_frame {f : Frame} (hs : decodeStream s.decodeBytes s.rxEnd = .frame f rest) :
    ∃ t, Returns s t f rest ∧ s.stepAwaitConfirm = t.judgeConfirm f := by
  obtain ⟨t, ht, hr, -⟩ := decodeRun_frame h hs
  exact ⟨t, hr, by rw [State.stepAwaitConfirm, ht]⟩

theorem stepAwaitConfirm_error {e : DecodeError} (hs : decodeStream s.decodeBytes s.rxEnd = .error e rest) :
    EndsOn s s.stepAwaitConfirm .confirmFailed e ∧ s.stepAwaitConfirm.rx = rest := by
  obtain ⟨b, l, a, n, -, ht⟩ := decodeRun_error h hs
  rw [State.stepAwaitConfirm, ht]
  exact ⟨endsOn_failRun .., failRun_rx ..⟩

end

/-! ### What `AwaitConfirm` makes of a frame (R206, R207, R209) -/

theorem judgeConfirm_rejectedFunction (t : State) {f : Frame} (hf : f.function ≠ Config.fnWrite) :
    t.judgeConfirm f =
      { t with outcome := .rejectedFunction, cause := .confirmFunctionMismatch, rxFn := f.function, phase := .done } := by
  rw [State.judgeConfirm, if_pos hf]; rfl

theorem judgeConfirm_rejectedAddress {t : State} {f : Frame} (hf : f.function = Config.fnWrite)
    (ha : f.deviceAddr ≠ t.target) :
    t.judgeConfirm f =
      { t with outcome := .rejectedAddress, cause := .addressRejected, rxAddr := f.deviceAddr, phase := .done } := by
  rw [State.judgeConfirm, if_neg (not_not_intro hf), if_pos ha]; rfl

theorem judgeConfirm_confirmed {t : State} {f : Frame} (hf : f.function = Config.fnWrite) (ha : f.deviceAddr = t.target) :
    t.judgeConfirm f =
      { t with outcome := .confirmed, cause := .none, rxAddr := f.deviceAddr, phase := .done } := by
  rw [State.judgeConfirm, if_neg (not_not_intro hf), if_neg (not_not_intro ha)]; rfl

theorem Returns.target {s t : State} {f : Frame} {rest : List Byte} (h : Returns s t f rest) : t.target = s.target :=
  (congrArg State.target h.2 :)

/-! ### Bytes that reach a waiting block with nothing before them in the stream -/

theorem receive_awaitIdent {s : State} (hp : s.phase = .awaitIdent) (bytes : List Byte) :
    s.receive bytes = (s.deliver bytes).stepAwaitIdent := by
  rw [receive_of_reading (by simp [State.reading, hp]), State.stepReading, show (s.deliver bytes).phase = _ from hp]

theorem receive_awaitConfirm {s : State} (hp : s.phase = .awaitConfirm) (bytes : List Byte) :
    s.receive bytes = (s.deliver bytes).stepAwaitConfirm := by
  rw [receive_of_reading (by simp [State.reading, hp]), State.stepReading, show (s.deliver bytes).phase = _ from hp]

/-- Not held at its second read, the `DECODE` that waits there begins with the bytes that came. -/
theorem decodeStream_deliver {s : State} (hi : s.inFlight ≠ some (.read 1)) (hx : s.rx = []) (bytes : List Byte) :
    decodeStream (s.deliver bytes).decodeBytes (s.deliver bytes).rxEnd = decodeStream bytes s.rxEnd := by
  rw [decodeBytes_notExtra (s := s.deliver bytes) hi, State.deliver, hx]; rfl

/-! ### The inbound frame kinds

Delivered bytes change the stream only, so `Returns` and `EndsOn` say from the state that has them what they say from the one
before. -/

/-- Settles O45: the frame's bytes are the stream, which gives the frame or the mismatch; as a confirmation its function is
the wrong one. -/
theorem identFrameReceived : Obligations.IdentFrameReceived := by
  intro s start addr da c hi hx
  have hs := (decodeStream_deliver hi hx _).trans (decodeStream_ident start addr da c [] s.rxEnd)
  rw [List.append_nil] at hs
  have hw := stageFits_of_notExtra (s := s.deliver (frameBytes start addr Config.fnRequest da [] c)) hi
  refine ⟨fun hp hg => ?_, fun hp hg => ?_, fun hp hg => ?_, fun hp hg => ?_⟩
  · obtain ⟨t, hr, ht⟩ := stepAwaitIdent_frame hw (hs.trans (if_pos hg))
    exact ⟨t, hr, congrArg Host.Outcome.next ((receive_awaitIdent hp _).trans ht)⟩
  · obtain ⟨t, hr, ht⟩ := stepAwaitConfirm_frame hw (hs.trans (if_pos hg))
    have hj := judgeConfirm_rejectedFunction t (f := ⟨start, addr, Config.fnRequest, da, [], c⟩)
      (show Config.fnRequest ≠ Config.fnWrite by decide)
    exact ⟨t, hr, congrArg Host.Outcome.next ((receive_awaitConfirm hp _).trans (ht.trans hj))⟩
  · obtain ⟨he, hx'⟩ := stepAwaitIdent_error hw (hs.trans (if_neg hg))
    exact ⟨_, congrArg Host.Outcome.next (receive_awaitIdent hp _), hx', he⟩
  · obtain ⟨he, hx'⟩ := stepAwaitConfirm_error hw (hs.trans (if_neg hg))
    exact ⟨_, congrArg Host.Outcome.next (receive_awaitConfirm hp _), hx', he⟩

/-- Settles O46: the same with the frame of 8 bytes, whose function is the right one, so that its address decides. -/
theorem confirmFrameReceived : Obligations.ConfirmFrameReceived := by
  intro s start addr da p c hi hx
  have hs := (decodeStream_deliver hi hx _).trans (decodeStream_confirm start addr da p c [] s.rxEnd)
  rw [List.append_nil] at hs
  have hw := stageFits_of_notExtra (s := s.deliver (frameBytes start addr Config.fnWrite da [p] c)) hi
  refine ⟨fun hp hg => ?_, fun hp hg ha => ?_, fun hp hg ha => ?_, fun hp hg => ?_, fun hp hg => ?_⟩
  · obtain ⟨t, hr, ht⟩ := stepAwaitIdent_frame hw (hs.trans (if_pos hg))
    exact ⟨t, hr, congrArg Host.Outcome.next ((receive_awaitIdent hp _).trans ht)⟩
  · obtain ⟨t, hr, ht⟩ := stepAwaitConfirm_frame hw (hs.trans (if_pos hg))
    have hj := judgeConfirm_confirmed (f := ⟨start, addr, Config.fnWrite, da, [p], c⟩) rfl (ha.trans hr.target.symm)
    exact ⟨t, hr, congrArg Host.Outcome.next ((receive_awaitConfirm hp _).trans (ht.trans hj))⟩
  · obtain ⟨t, hr, ht⟩ := stepAwaitConfirm_frame hw (hs.trans (if_pos hg))
    have hj := judgeConfirm_rejectedAddress (f := ⟨start, addr, Config.fnWrite, da, [p], c⟩) rfl (hr.target ▸ ha)
    exact ⟨t, hr, congrArg Host.Outcome.next ((receive_awaitConfirm hp _).trans (ht.trans hj))⟩
  · obtain ⟨he, hx'⟩ := stepAwaitIdent_error hw (hs.trans (if_neg hg))
    exact ⟨_, congrArg Host.Outcome.next (receive_awaitIdent hp _), hx', he⟩
  · obtain ⟨he, hx'⟩ := stepAwaitConfirm_error hw (hs.trans (if_neg hg))
    exact ⟨_, congrArg Host.Outcome.next (receive_awaitConfirm hp _), hx', he⟩

/-- The stream refuses a function that is not admitted, after 7 bytes, in either waiting step (R198, R208). -/
theorem receive_not_admitted {s : State} {fn : Byte} (h4 : fn ≠ Config.fnRequest) (h2 : fn ≠ Config.fnWrite)
    (hi : s.inFlight ≠ some (.read 1)) (hx : s.rx = []) (start : Byte) (addr : Addr) (da : DataAddr) (pl : List Byte) (c : Crc) :
    (s.phase = .awaitIdent →
      EndsOn s (s.receive (frameBytes start addr fn da pl c)) .identFailed (.unexpectedFunction fn) ∧
      (s.receive (frameBytes start addr fn da pl c)).rx = (pl ++ checksumBytes c).drop 2) ∧
    (s.phase = .awaitConfirm →
      EndsOn s (s.receive (frameBytes start addr fn da pl c)) .confirmFailed (.unexpectedFunction fn) ∧
      (s.receive (frameBytes start addr fn da pl c)).rx = (pl ++ checksumBytes c).drop 2) := by
  have hs := (decodeStream_deliver hi hx _).trans (decodeStream_other h4 h2 start addr da pl c [] s.rxEnd)
  rw [List.append_nil, List.append_nil] at hs
  have hw := stageFits_of_notExtra (s := s.deliver (frameBytes start addr fn da pl c)) hi
  constructor <;> intro hp
  · rw [receive_awaitIdent hp]
    exact stepAwaitIdent_error hw hs
  · rw [receive_awaitConfirm hp]
    exact stepAwaitConfirm_error hw hs

/-- Settles O47: neither READ nor CONTROL is admitted. -/
theorem readAndControlFramesRejected : Obligations.ReadAndControlFramesRejected := by
  intro s start addr da pl c hi hx
  obtain ⟨readIdent, readConfirm⟩ :=
    receive_not_admitted (fn := Config.fnRead) (by decide) (by decide) hi hx start addr da pl c
  obtain ⟨controlIdent, controlConfirm⟩ :=
    receive_not_admitted (fn := Config.fnControl) (by decide) (by decide) hi hx start addr da pl c
  exact ⟨fun hp => ⟨⟨_, rfl, readIdent hp⟩, ⟨_, rfl, controlIdent hp⟩⟩,
    fun hp => ⟨⟨_, rfl, readConfirm hp⟩, ⟨_, rfl, controlConfirm hp⟩⟩⟩

end Sys2Proof.Machine
end

section
/-! SUPPORT. The outbound frame kind: the write-address command as an instruction (spec/30_encoding.md R105, R109, R123). -/

namespace Sys2Proof.Machine

/-- In `BuildingWriteCommand` `SETADDR` is the step's command for its target. -/
theorem exec_setAddr_building {s : State} (hp : s.phase = .buildingWriteCommand) (target : Addr) (c : Crc) :
    exec (.setAddr target c) s = .next (s.sendCommand target) := if_pos hp

/-- In any other phase it is HOST's `ENCODE` of that frame. -/
theorem exec_setAddr_elsewhere {s : State} (hp : s.phase ≠ .buildingWriteCommand) (target : Addr) (c : Crc) :
    exec (.setAddr target c) s =
      exec (.encode Config.fnWrite Config.broadcast Config.writeCmdDataAddr (commandPayload target)) s := if_neg hp

/-- The step sends its command as TRANSPORT takes it (spec/42_handshake.md R201). -/
theorem sendCommand_ok {s : State} {as : List WriteAnswer} (hi : s.inFlight = none) (ha : s.writeAnswers = .ok :: as)
    (target : Addr) :
    ∃ b a n, State.txBytes { s with txb := b, txlen := 10#4 } = commandBytes target ∧
      s.sendCommand target =
        { s with phase := .awaitConfirm, tx := s.tx ++ commandBytes target, writeAnswers := as, txb := b, txlen := 10#4,
                 acc := a, draws := n } := by
  obtain ⟨b, a, n, hsend, hb⟩ := sendCommand_builds (s := s) (t := target) (.inl (by rw [hi]; simp))
  refine ⟨b, a, n, hb, ?_⟩
  rw [hsend, sendBuilt_ok hb ha, ← hi]

/-- Settles O50: `SETADDR` encodes to the command and sends it, and the step of `BuildingWriteCommand` is the command for
`TARGET`. -/
theorem setAddrIsTheCommand : Obligations.SetAddrIsTheCommand := by
  intro s target hp
  refine ⟨⟨rfl, fun as hi ha => ?_⟩, exec_setAddr_building hp s.target _⟩
  obtain ⟨b, a, n, hb, hsend⟩ := sendCommand_ok hi ha target
  rw [exec_setAddr_building hp, hsend]
  exact ⟨_, rfl, hb, rfl⟩

/-- Settles O51: elsewhere it is HOST's `ENCODE` of the command's fields, which always has a next state. -/
theorem setAddrElsewhereIsEncode : Obligations.SetAddrElsewhereIsEncode :=
  fun _ target c hp => ⟨_, exec_setAddr_elsewhere hp target c, rfl⟩

end Sys2Proof.Machine
end

section
/-! SUPPORT. The Checksum Engine (spec/40_checksum.md R140 to R149): what a step does to the bits, what two bytes do to the
accumulator, and what one bit of a string does to its checksum. -/

namespace Sys2Proof.Machine

/-! ### CRC.BIT and CRC.BYTE -/

/-- R141 bit by bit: the next higher bit comes down, and the bit shifted out says whether `CRC_POLY` is XORed in. -/
theorem getLsbD_crcBit (a : Word) (k : Nat) :
    (crcBit a).getLsbD k = (a.getLsbD (k + 1) ^^ (a.getLsbD 0 && (0xA001#16).getLsbD k)) := by
  rw [crcBit_eq]
  split
  next h => rw [BitVec.getLsbD_xor, BitVec.getLsbD_ushiftRight, h, Bool.true_and, Nat.add_comm]
  next h => rw [BitVec.getLsbD_ushiftRight, Bool.eq_false_of_not_eq_true h, Bool.false_and, Bool.xor_false, Nat.add_comm]

/-- Settles O6: the bits are those of `getLsbD_crcBit`, and the corner cases are evaluated. -/
theorem crcBitShiftsThenXors : Obligations.CrcBitShiftsThenXors :=
  ⟨fun a k _ => getLsbD_crcBit a k, by decide⟩

/-- A byte's zero extension reaches bits 0 to 7 only (R142). -/
theorem getLsbD_xor_byte (a : Word) (x : Byte) {k : Nat} (hk : k < 16) :
    (a ^^^ x.setWidth 16).getLsbD k = if k < 8 then a.getLsbD k ^^ x.getLsbD k else a.getLsbD k := by
  rw [BitVec.getLsbD_xor, BitVec.getLsbD_setWidth, decide_eq_true hk, Bool.true_and]
  split
  · rfl
  next h => rw [BitVec.getLsbD_of_ge x k (by omega), Bool.xor_false]

/-- Settles O7: `CRC.BYTE` is defined as the repetition, and the byte's bits are those of `getLsbD_xor_byte`. -/
theorem crcByteIsEightShifts : Obligations.CrcByteIsEightShifts :=
  ⟨fun _ _ => rfl, fun a x _ hk => getLsbD_xor_byte a x hk, by decide⟩

/-! ### Two bytes: the residue -/

/-- A byte shifted up has bit 0 clear, so `CRC.BIT` is a plain shift back down. -/
theorem crcBit_shiftLeft (x : Byte) {k : Nat} (hk : k < 8) :
    crcBit (x.setWidth 16 <<< (k + 1)) = x.setWidth 16 <<< k := by
  apply BitVec.eq_of_getLsbD_eq
  intro i hi
  rw [getLsbD_crcBit]
  by_cases h : i + 1 < 16
  · simp [h, hi]
  · have hx : x.getLsbD (i - k) = false := BitVec.getLsbD_of_ge x _ (by omega)
    simp [h, hx]

/-- The eight shifts bring the high byte down to the low one. -/
theorem crcShift_high (y : Byte) : crcShift (y.setWidth 16 <<< 8) = y.setWidth 16 := by
  simp [crcShift, Nat.repeat, crcBit_shiftLeft]

/-- The two bytes of a word do not overlap. -/
theorem le16_eq_xor (x y : Byte) : le16 x y = x.setWidth 16 ^^^ y.setWidth 16 <<< 8 := by
  unfold le16
  apply BitVec.eq_of_getLsbD_eq
  intro i hi
  by_cases h : i < 8
  · simp [h]
  · simp [BitVec.getLsbD_of_ge x i (by omega)]

/-- Two bytes are absorbed as the one word they are, low byte first, in sixteen shifts. -/
theorem crcByte_crcByte (a : Word) (x y : Byte) :
    crcByte (crcByte a x) y = crcShift (crcShift (a ^^^ le16 x y)) := by
  rw [le16_eq_xor, ← BitVec.xor_assoc, crcShift_xor (a ^^^ _), crcShift_high]
  rfl

theorem crcShift_eq_zero_iff {a : Word} : crcShift a = 0#16 ↔ a = 0#16 :=
  ⟨crcShift_eq_zero, fun h => h ▸ crcShift_zero⟩

/-- Two bytes leave 0 exactly when they are the accumulator (R149). -/
theorem crcByte_crcByte_eq_zero_iff {a : Word} {x y : Byte} : crcByte (crcByte a x) y = 0#16 ↔ le16 x y = a := by
  rw [crcByte_crcByte, crcShift_eq_zero_iff, crcShift_eq_zero_iff, BitVec.xor_eq_zero_iff, eq_comm]

/-- The accumulator goes on from the end of the first string (R148). -/
theorem crc16_append (s t : List Byte) : crc16 (s ++ t) = t.foldl crcByte (crc16 s) := List.foldl_append

/-- Settles O8: a fold over two strings is the fold over the second from where the first ends. -/
theorem crcContinues : Obligations.CrcContinues := crc16_append

/-- Settles O9: the last two bytes leave 0 exactly when they are the checksum of those before. -/
theorem crcResidueIsZero : Obligations.CrcResidueIsZero := by
  have residue (s : List Byte) (x y : Byte) : le16 x y = crc16 s ↔ crc16 (s ++ [x, y]) = 0x0000#16 := by
    rw [crc16_append]
    exact crcByte_crcByte_eq_zero_iff.symm
  exact ⟨fun s => (residue s _ _).mp (le16_lo_hi _), residue⟩

/-! ### One bit: error detection -/

/-- Two bytes that differ lead one accumulator to two. -/
theorem crcByte_inj_byte {a : Word} {x y : Byte} (h : crcByte a x = crcByte a y) : x = y := by
  have hw : x.setWidth 16 = y.setWidth 16 := (BitVec.xor_right_inj a).mp (crcShift_inj h)
  simpa using congrArg (BitVec.setWidth 8) hw

/-- Two accumulators that differ stay different whatever string both absorb. -/
theorem foldl_crcByte_inj {t : List Byte} {a b : Word} (h : t.foldl crcByte a = t.foldl crcByte b) : a = b := by
  induction t generalizing a b with
  | nil => exact h
  | cons _ _ ih => exact crcByte_inj (ih h)

/-- Strings that differ in one byte have different checksums. -/
theorem crc16_inj_byte {s t : List Byte} {x y : Byte} (h : crc16 (s ++ [x] ++ t) = crc16 (s ++ [y] ++ t)) : x = y := by
  simp only [crc16_append] at h
  exact crcByte_inj_byte (foldl_crcByte_inj h)

/-- Settles O10: flipping a bit changes the byte, and the checksum tells strings apart that differ in one byte. -/
theorem crcDetectsEverySingleBit : Obligations.CrcDetectsEverySingleBit := by
  intro s t x b hb h
  have hx : x ^^^ (1#8 <<< b) = x := crc16_inj_byte h
  have hbit : (x ^^^ (1#8 <<< b)).getLsbD b = x.getLsbD b := by rw [hx]
  simp [hb] at hbit

/-! ### CRC16 on behalf of HOST -/

/-- A free block answers with the checksum and keeps it in `ACC` (R140). -/
theorem exec_crc16_free {s : State} (h : Free s) (bs : List Byte) :
    exec (.crc16 bs) s = .next { s with acc := crc16 bs, reply := .crc (crc16 bs) } := by
  show execCrc16 bs s = _
  simp only [execCrc16, h.busy, h.hostHeld, Bool.false_eq_true, if_false]
  rfl

/-- Settles O11: the accumulator begins as 0xFFFF. -/
theorem crc16ReturnsTheChecksum : Obligations.Crc16ReturnsTheChecksum :=
  fun _ bs h => ⟨_, exec_crc16_free h bs⟩

/-- Settles O12: both blocks answer with the checksum of the bytes. -/
theorem crc16DependsOnTheBytesAlone : Obligations.Crc16DependsOnTheBytesAlone :=
  fun _ _ bs h h' => ⟨_, _, exec_crc16_free h bs, exec_crc16_free h' bs, rfl⟩

end Sys2Proof.Machine
end

section
/-! SUPPORT. HOST's `ENCODE` on a free block (spec/41_codec.md R160 to R163), and HOST's operations on a block that is held in
its own `DECODE` (R173). -/

namespace Sys2Proof.Machine

/-- A free block builds the frame, or refuses the operands (R161, R162). -/
theorem exec_encode_free {s : State} (h : Free s) (fn : Byte) (addr : Addr) (da : DataAddr) (pl : List Byte) :
    exec (.encode fn addr da pl) s = .next
      (if encodable fn pl then (s.build fn addr da pl).withReply (.bytes (builtFrame fn addr da pl))
       else s.refuse .encodePrecondition) := by
  show Host.Outcome.next (s.hostEncode fn addr da pl) = _
  simp only [State.hostEncode, h.busy, h.hostHeld, Bool.false_eq_true, if_false]

/-- Settles O13: the frame built reads back from `TXB`. -/
theorem encodeBuildsTheFrame : Obligations.EncodeBuildsTheFrame := by
  intro s fn addr da pl hf hpl hfn
  have hb : (s.build fn addr da pl).txBytes = builtFrame fn addr da pl := txBytes_build s fn addr da hpl
  refine ⟨_, exec_encode_free hf fn addr da pl, ?_⟩
  rw [if_pos ((encodable_iff fn pl).mpr ⟨hpl, hfn⟩)]
  exact ⟨hb, build_txlen s fn addr da hpl, congrArg Reply.bytes hb.symm, rfl⟩

/-- Settles O14: such operands are not encodable. -/
theorem encodeRefusesBadOperands : Obligations.EncodeRefusesBadOperands := by
  intro s fn addr da pl hf hbad
  have hn : ¬ encodable fn pl = true := by
    rw [encodable_iff]
    rintro ⟨hpl, hfn⟩
    obtain hlong | ⟨h1, h2, h3, h4⟩ := hbad
    · omega
    · simp [h1, h2, h3, h4] at hfn
  rw [exec_encode_free hf, if_neg hn]
  rfl

/-- A move that happens while a `DECODE` of HOST is held is no operation. -/
theorem nextInput_ne_command {s : State} (h : s.hostHeld = true) (opsel : BitVec 2) (arg : Operands) :
    s.nextInput ≠ some (.command opsel arg) := by
  intro hn
  have ha : (!s.hostHeld) = true := List.find?_some (p := s.admits) hn
  simp [h] at ha

/-- Settles O26: each operation is postponed, and the queue passes over those that wait. -/
theorem heldDecodeKeepsOperationsWaiting : Obligations.HeldDecodeKeepsOperationsWaiting := by
  intro s hb hc
  have hh := hostHeld_of_held hb hc
  refine ⟨fun _ => ite_held hb hh, fun _ _ _ _ => congrArg Host.Outcome.next (ite_held hb hh), ite_held hb hh,
    fun _ => ite_held hb hh, nextInput_ne_command hh, ?_⟩
  intro waiting rest i hw hi hs
  exact nextInput_waiting hh hw (admits_of_not_command s hi) hs

end Sys2Proof.Machine
end

section
/-! SUPPORT. `DECODE` on behalf of HOST ends as its bytes say (spec/41_codec.md R164 to R174): once for the step that begins it or
goes on with it, then for a free block, where the bytes are those of the RX stream. -/

namespace Sys2Proof.Machine

/-! ### A `DECODE` that begins or goes on -/

section
variable {s : State} {rest : List Byte} (h : StageFits s)
include h

theorem hostDecode_frame {f : Frame} (hs : decodeStream s.decodeBytes s.rxEnd = .frame f rest) :
    ∃ t, s.hostDecode = { t with reply := .frame f } ∧ Returns s t f rest := by
  obtain ⟨t, ht, hr, -⟩ := decodeRun_frame h hs
  exact ⟨t, by rw [State.hostDecode, ht]; rfl, hr⟩

theorem hostDecode_error {e : DecodeError} (hs : decodeStream s.decodeBytes s.rxEnd = .error e rest) :
    ∃ b l a n, s.hostDecode =
      { s with rx := rest, rxb := b, rxlen := l, rxfValid := false, acc := a, inFlight := none, draws := n,
               reply := .error e } := by
  obtain ⟨b, l, a, n, -, ht⟩ := decodeRun_error h hs
  exact ⟨b, l, a, n, by rw [State.hostDecode, ht]; rfl⟩

theorem hostDecode_short (hs : decodeStream s.decodeBytes s.rxEnd = .short) :
    ∃ b l rest n, rest <:+ s.rx ∧ s.hostDecode =
      { s with rx := rest, rxb := b, rxlen := l, rxfValid := false, inFlight := none, draws := n,
               reply := .error .shortRead } := by
  obtain ⟨b, l, rest, n, -, hr, ht⟩ := decodeRun_short h hs
  exact ⟨b, l, rest, n, hr, by rw [State.hostDecode, ht]; rfl⟩

theorem hostDecode_held (hs : decodeStream s.decodeBytes s.rxEnd = .held) :
    HeldReading s s.hostDecode ∧ (s.inFlight = some (.read 1) → s.hostDecode = s) := by
  obtain ⟨t, ht, hh⟩ := decodeRun_held h hs
  rw [State.hostDecode, ht]
  exact hh

end

/-- A block at rest with a `DECODE` of HOST in flight goes on with it (R173). -/
theorem atRest_eq_hostDecode {s : State} (h : s.inFlight ≠ none) : s.atRest = s.hostDecode :=
  if_pos (Option.isSome_iff_ne_none.mpr h)

/-- Settles O36: the step of `Idle` or `Done` goes on with the `DECODE`. -/
theorem heldDecodeGoesOn : Obligations.HeldDecodeGoesOn := by
  intro s i hl hc hi
  have hx : exec i s = .next s.hostDecode := by
    rw [← atRest_eq_hostDecode hc]
    obtain ⟨-, rfl⟩ | ⟨-, rfl⟩ := hi <;> rfl
  rw [hx]
  have hw := hl.second
  split
  next hs =>
    obtain ⟨t, ht, hr⟩ := hostDecode_frame hw hs
    exact ⟨t, congrArg _ ht, hr⟩
  next hs =>
    obtain ⟨b, l, a, n, ht⟩ := hostDecode_error hw hs
    exact ⟨b, l, a, n, congrArg _ ht⟩
  next hs =>
    obtain ⟨b, l, rest, n, hr, ht⟩ := hostDecode_short hw hs
    exact ⟨b, l, rest, n, hr, congrArg _ ht⟩
  next hs => exact ⟨_, rfl, hostDecode_held hw hs⟩

/-! ### A free block -/

/-- HOST's reply plays no part in what a `DECODE` returns. -/
theorem Returns.withReply {s t : State} {f : Frame} {rest : List Byte} {r : Reply} (h : Returns (s.withReply r) t f rest) :
    Returns s (t.withReply s.reply) f rest :=
  ⟨h.1, (congrArg (State.withReply · s.reply) h.2 :)⟩

section
variable {s : State} (hf : Free s)
include hf

/-- The `DECODE` that HOST has begun is about the RX stream. -/
theorem Free.decodeBytes_withReply (r : Reply) : (s.withReply r).decodeBytes = s.rx :=
  decodeBytes_notExtra (s := s.withReply r) hf.notExtra

theorem exec_decode_frame {f : Frame} {rest : List Byte} (hs : decodeStream s.rx s.rxEnd = .frame f rest) :
    ∃ t, exec .decode s = .next { t with reply := .frame f } ∧ Returns s t f rest := by
  obtain ⟨t, ht, hr⟩ := hostDecode_frame (s := s.withReply .nothing) (stageFits_of_notExtra hf.notExtra)
    ((hf.decodeBytes_withReply _).symm ▸ hs)
  exact ⟨t.withReply s.reply, (exec_decode_free hf).trans (congrArg Host.Outcome.next ht), hr.withReply⟩

theorem exec_decode_error {e : DecodeError} {rest : List Byte} (hs : decodeStream s.rx s.rxEnd = .error e rest) :
    ∃ b l a n, exec .decode s = .next
      { s with rx := rest, rxb := b, rxlen := l, rxfValid := false, acc := a, draws := n, reply := .error e } := by
  obtain ⟨b, l, a, n, ht⟩ := hostDecode_error (s := s.withReply .nothing) (stageFits_of_notExtra hf.notExtra)
    ((hf.decodeBytes_withReply _).symm ▸ hs)
  exact ⟨b, l, a, n, by rw [exec_decode_free hf, ht, ← hf.2]; rfl⟩

theorem exec_decode_short (hs : decodeStream s.rx s.rxEnd = .short) :
    ∃ b l rest n, rest <:+ s.rx ∧ exec .decode s = .next
      { s with rx := rest, rxb := b, rxlen := l, rxfValid := false, draws := n, reply := .error .shortRead } := by
  obtain ⟨b, l, rest, n, hr, ht⟩ := hostDecode_short (s := s.withReply .nothing) (stageFits_of_notExtra hf.notExtra)
    ((hf.decodeBytes_withReply _).symm ▸ hs)
  exact ⟨b, l, rest, n, hr, by rw [exec_decode_free hf, ht, ← hf.2]; rfl⟩

end

/-- Settles O15: each of the four ends of the stream is one of the `DECODE`. -/
theorem decodeFollowsTheStream : Obligations.DecodeFollowsTheStream := by
  intro s hf
  split
  next hs => exact exec_decode_frame hf hs
  next hs => exact exec_decode_error hf hs
  next hs => exact exec_decode_short hf hs
  next hs => exact exec_decode_held hf hs

/-- Settles O19: a stream cut short of its frame runs out, and one that closes there is a `ShortRead`. -/
theorem decodeShortRead : Obligations.DecodeShortRead := by
  intro s hf he hcut
  have hs : decodeStream s.rx s.rxEnd = .short := by rw [decodeStream_cut hcut, he]; rfl
  exact exec_decode_short hf hs

/-- A stream that begins with a REQUEST frame's 7 bytes is compared (R166 (b), R168). -/
theorem decodeStream_request (b0 b1 b2 b4 b5 b6 : Byte) (rest : List Byte) (e : RxEnd) :
    decodeStream (b0 :: b1 :: b2 :: 4#8 :: b4 :: b5 :: b6 :: rest) e = compareFrame b0 b1 b2 4#8 b4 [] b5 b6 rest := rfl

/-- A stream that begins with a WRITE frame's 8 bytes is compared (R166 (a), R168). -/
theorem decodeStream_write (b0 b1 b2 b4 b5 b6 b7 : Byte) (rest : List Byte) (e : RxEnd) :
    decodeStream (b0 :: b1 :: b2 :: 2#8 :: b4 :: b5 :: b6 :: b7 :: rest) e =
      compareFrame b0 b1 b2 2#8 b4 [b5] b6 b7 rest := rfl

/-- A frame that HOST's `DECODE` returns on a free block is its reply, stands in `RXB`, and is gone from the stream (R169). -/
theorem exec_decode_reply {s : State} (hf : Free s) {f : Frame} {rest : List Byte}
    (hs : decodeStream s.rx s.rxEnd = .frame f rest) :
    ∃ t, exec .decode s = .next t ∧ t.reply = .frame f ∧ t.rx = rest ∧ t.rxfValid = true := by
  obtain ⟨t, ht, -, hr⟩ := exec_decode_frame hf hs
  exact ⟨_, ht, rfl, (congrArg State.rx hr :), (congrArg State.rxfValid hr :)⟩

/-- Settles O16: a frame with the checksum of its bytes is what the stream gives. -/
theorem decodeRecoversAdmittedFrames : Obligations.DecodeRecoversAdmittedFrames := by
  intro s start addr da p tail hf
  refine ⟨fun hx => exec_decode_reply hf ?_, fun hx => exec_decode_reply hf ?_⟩ <;> rw [hx]
  · exact (decodeStream_ident start addr da _ tail s.rxEnd).trans (if_pos rfl)
  · exact (decodeStream_confirm start addr da p _ tail s.rxEnd).trans (if_pos rfl)

/-- Settles O18: the comparison fails. -/
theorem decodeComparesTheChecksum : Obligations.DecodeComparesTheChecksum := by
  intro s b0 b1 b2 b4 b5 b6 b7 rest hf
  refine ⟨fun hx hne => exec_decode_error hf ?_, fun hx hne => exec_decode_error hf ?_⟩ <;> rw [hx]
  · exact (decodeStream_request b0 b1 b2 b4 b5 b6 rest s.rxEnd).trans (if_neg hne)
  · exact (decodeStream_write b0 b1 b2 b4 b5 b6 b7 rest s.rxEnd).trans (if_neg hne)

end Sys2Proof.Machine
end

section
/-! SUPPORT. A `DECODE` that is held before its extra byte (spec/41_codec.md R173). -/

namespace Sys2Proof.Machine

/-- `DECODE` on the 7 bytes of a WRITE frame is held, in a state from which it cannot be told apart from one that has all the
bytes from the start (R173). -/
structure HeldBeforeExtra (s t : State) (bytes : List Byte) : Prop where
  held : s.decodeRun = .held t
  wantsOne : t.inFlight = some (.read 1)
  resumes : (t.deliver bytes).decodeRun = (s.deliver bytes).decodeRun

theorem exists_heldBeforeExtra {s : State} (hi : s.inFlight = none) (he : s.rxEnd = .stalls) (hl : s.rx.length = 7)
    (h3 : s.rx[3]? = some 2#8) (x : Byte) (more : List Byte) : ∃ t, HeldBeforeExtra s t (x :: more) := by
  obtain ⟨b0, b1, b2, b3, b4, b5, b6, rest, hs⟩ := seven_bytes (l := s.rx) (by omega)
  obtain rfl : rest = [] := by simpa [hs] using hl
  obtain rfl : b3 = 2#8 := by simpa [hs] using h3
  refine ⟨_, decodeRun_cut (by simp [hi]) he hs, rfl, ?_⟩
  exact decodeRun_cut_resumes (s := s.deliver (x :: more)) hi (congrArg (· ++ x :: more) hs)

section
variable {s t : State} {bytes : List Byte} (h : HeldBeforeExtra s t bytes)
include h

/-- As a step of `AwaitIdent`. -/
theorem HeldBeforeExtra.awaitIdent : exec .awaitIdent s = .next t ∧
    exec .awaitIdent (t.deliver bytes) = exec .awaitIdent (s.deliver bytes) := by
  simp only [exec, execAwaitIdent, State.stepAwaitIdent, h.held, h.resumes, and_self]

/-- As a step of `AwaitConfirm`. -/
theorem HeldBeforeExtra.awaitConfirm : exec .awaitConfirm s = .next t ∧
    exec .awaitConfirm (t.deliver bytes) = exec .awaitConfirm (s.deliver bytes) := by
  simp only [exec, execAwaitConfirm, State.stepAwaitConfirm, h.held, h.resumes, and_self]

/-- As a `DECODE` of HOST. -/
theorem HeldBeforeExtra.hostDecode : s.hostDecode = t ∧ (t.deliver bytes).atRest = (s.deliver bytes).hostDecode := by
  have hc : (t.deliver bytes).inFlight ≠ none := by simp [State.deliver, h.wantsOne]
  rw [atRest_eq_hostDecode hc]
  simp only [State.hostDecode, h.held, h.resumes, and_self]

end

/-- Settles O22: HOST's `DECODE` and both waiting phases do the same with the `DECODE` held and with the whole one. -/
theorem stagedDecodeIsTheWholeDecode : Obligations.StagedDecodeIsTheWholeDecode := by
  intro s x more hi he hl h3
  obtain ⟨t, ht⟩ := exists_heldBeforeExtra hi he hl h3 x more
  obtain ⟨u, hu⟩ := exists_heldBeforeExtra (s := s.withReply .nothing) hi he hl h3 x more
  have host (hb : NotBusy s) : exec .decode s = .next u ∧
      .next (u.deliver (x :: more)).atRest = exec .decode (s.deliver (x :: more)) := by
    obtain ⟨hd, hr⟩ := hu.hostDecode
    exact ⟨(exec_decode_free ⟨hb, hi⟩).trans (congrArg _ hd),
      (congrArg _ hr).trans (exec_decode_free (s := s.deliver (x :: more)) ⟨hb, hi⟩).symm⟩
  refine ⟨fun _ => ?_, fun _ => ?_, fun hp => ?_, fun hp => ?_⟩
  · exact ⟨t, ht.awaitIdent.1, ht.wantsOne, ht.awaitIdent.2⟩
  · exact ⟨t, ht.awaitConfirm.1, ht.wantsOne, ht.awaitConfirm.2⟩
  · obtain ⟨hd, hr⟩ := host (notBusy_of_idle hp)
    exact ⟨u, hd, hu.wantsOne, hr⟩
  · obtain ⟨hd, hr⟩ := host (notBusy_of_done hp)
    exact ⟨u, hd, hu.wantsOne, hr⟩

end Sys2Proof.Machine
end

section
/-! SUPPORT. The block's own command fed back to it (spec/41_codec.md R179 (d)). -/

namespace Sys2Proof.Machine

/-- The command's first 8 bytes are those of a WRITE frame with the length byte as its payload and the target as its checksum
(spec/30_encoding.md R105, R179 (d)). -/
theorem commandBytes_eq_confirm (t : Addr) :
    commandBytes t = frameBytes 0x55#8 0#16 Config.fnWrite 0x00#8 [0x02#8] t ++ checksumBytes (commandChecksum t) := rfl

/-- The checksum of the command's first six bytes (V33b). -/
theorem crc16_commandHead : crc16 [0x55#8, loByte 0#16, hiByte 0#16, Config.fnWrite, 0x00#8, 0x02#8] = 0x1F2C#16 := by
  decide +kernel

/-- The command for that target ends with the checksum 0 (V33c). -/
theorem commandChecksum_head : commandChecksum 0x1F2C#16 = 0#16 := by decide +kernel

theorem decodeStream_command (t : Addr) (tail : List Byte) (e : RxEnd) :
    decodeStream (commandBytes t ++ tail) e =
      if t = 0x1F2C#16 then
        .frame ⟨0x55#8, 0#16, Config.fnWrite, 0x00#8, [0x02#8], t⟩ (checksumBytes (commandChecksum t) ++ tail)
      else .error (.checksumMismatch t 0x1F2C#16) (checksumBytes (commandChecksum t) ++ tail) := by
  rw [commandBytes_eq_confirm, List.append_assoc, decodeStream_confirm, crc16_commandHead]

/-- Settles O23: the target decides the comparison. -/
theorem ownCommandDoesNotDecode : Obligations.OwnCommandDoesNotDecode := by
  intro t tail e
  refine ⟨fun ht => (decodeStream_command t tail e).trans (if_neg ht), ?_⟩
  rw [decodeStream_command, if_pos rfl, commandChecksum_head]
  rfl

end Sys2Proof.Machine
end

section
/-! SUPPORT. Frames that a line has changed (spec/41_codec.md R176): a frame of an admitted shape decodes exactly when the checksum
over the whole of it is zero (spec/40_checksum.md R149), and one flipped bit makes it another than zero (R147 (d)). -/

namespace Sys2Proof.Machine

/-- The bytes are as many as those of a frame with their function byte, and that function is admitted (spec/30_encoding.md R118). -/
def AdmittedShape (l : List Byte) : Prop :=
  (l.length = 7 ∧ l[3]? = some 4#8) ∨ (l.length = 8 ∧ l[3]? = some 2#8)

theorem AdmittedShape.function {l : List Byte} (h : AdmittedShape l) :
    7 ≤ l.length ∧ ∃ fn, (fn = 4#8 ∨ fn = 2#8) ∧ l[3]? = some fn := by
  obtain ⟨hl, h3⟩ | ⟨hl, h3⟩ := h
  · exact ⟨by omega, _, .inl rfl, h3⟩
  · exact ⟨by omega, _, .inr rfl, h3⟩

/-- A comparison that fails carries two different values. -/
theorem compareFrame_ne {start a b fn da c d : Byte} {pl rest : List Byte}
    (h : crc16 ([start, a, b, fn, da] ++ pl ++ [c, d]) ≠ 0#16) :
    ∃ r k, r ≠ k ∧ compareFrame start a b fn da pl c d rest = .error (.checksumMismatch r k) rest := by
  have hne : le16 c d ≠ crc16 ([start, a, b, fn, da] ++ pl) := fun he => h ((crcResidueIsZero.2 _ c d).mp he)
  exact ⟨_, _, hne, if_neg hne⟩

/-- A frame of an admitted shape over which the checksum is not zero is a mismatch and is gone from the stream (R168, R174). -/
theorem decodeStream_mismatch {l : List Byte} (hl : AdmittedShape l) (hc : crc16 l ≠ 0#16) (tail : List Byte) (e : RxEnd) :
    ∃ r k, r ≠ k ∧ decodeStream (l ++ tail) e = .error (.checksumMismatch r k) tail := by
  obtain ⟨b0, b1, b2, b3, b4, b5, b6, rest, rfl⟩ := seven_bytes (l := l) (by rcases hl with h | h <;> omega)
  obtain ⟨h7, h3⟩ | ⟨h8, h3⟩ := hl
  · obtain rfl : rest = [] := by simpa using h7
    obtain rfl : b3 = 4#8 := by simpa using h3
    exact compareFrame_ne hc
  · obtain ⟨b7, rfl⟩ : ∃ b7, rest = [b7] := List.length_eq_one_iff.mp (by simpa using h8)
    obtain rfl : b3 = 2#8 := by simpa using h3
    exact compareFrame_ne hc

/-- Bytes with a function that is not admitted are refused after 7 (R166 (c)). -/
theorem decodeStream_unexpected {l : List Byte} {fn : Byte} (hl : 7 ≤ l.length) (h3 : l[3]? = some fn) (h4 : fn ≠ 4#8)
    (h2 : fn ≠ 2#8) (tail : List Byte) (e : RxEnd) :
    decodeStream (l ++ tail) e = .error (.unexpectedFunction fn) (l.drop 7 ++ tail) := by
  obtain ⟨b0, b1, b2, b3, b4, b5, b6, rest, rfl⟩ := seven_bytes (l := l) (by omega)
  obtain rfl : b3 = fn := by simpa using h3
  exact (if_neg h4).trans (if_neg h2)

/-- What `ENCODE` builds for REQUEST and for WRITE with one payload byte has an admitted shape (R160, R118). -/
theorem builtFrame_admittedShape {bytes pl : List Byte} {addr : Addr} {da : DataAddr}
    (h : bytes = builtFrame 4#8 addr da [] ∨ (pl.length = 1 ∧ bytes = builtFrame 2#8 addr da pl)) : AdmittedShape bytes := by
  obtain rfl | ⟨hp, rfl⟩ := h
  · exact .inl ⟨rfl, rfl⟩
  · obtain ⟨p, rfl⟩ := List.length_eq_one_iff.mp hp
    exact .inr ⟨rfl, rfl⟩

/-- The checksum over the whole of what `ENCODE` builds is zero (R149). -/
theorem crc16_builtFrame (fn : Byte) (addr : Addr) (da : DataAddr) (pl : List Byte) :
    crc16 (builtFrame fn addr da pl) = 0#16 := crcResidueIsZero.1 _

/-- One bit flipped anywhere in a string changes its checksum (R147 (d)). -/
theorem crc16_set_flip {l : List Byte} {k b : Nat} (hk : k < l.length) (hb : b < 8) :
    crc16 (l.set k (l.getD k 0#8 ^^^ (1#8 <<< b))) ≠ crc16 l := by
  have hflip := crcDetectsEverySingleBit (l.take k) (l.drop (k + 1)) (l.getD k 0#8) b hb
  have hset (x : Byte) : l.take k ++ [x] ++ l.drop (k + 1) = l.set k x := by
    rw [List.set_eq_take_append_cons_drop, if_pos hk, List.append_assoc, List.singleton_append]
  rw [hset, hset] at hflip
  rwa [show l.set k (l.getD k 0#8) = l by simp [hk]] at hflip

/-- One bit flipped in an admitted function makes it none (R176). -/
theorem flipped_function {fn : Byte} (hfn : fn = 4#8 ∨ fn = 2#8) {b : Nat} (hb : b < 8) :
    fn ^^^ (1#8 <<< b) ≠ 4#8 ∧ fn ^^^ (1#8 <<< b) ≠ 2#8 := by
  obtain rfl | rfl := hfn <;> revert b <;> decide

/-- Settles O21: a flip of the function byte makes the function one that is not admitted, and any other keeps the shape and makes
the checksum over the frame another than zero. -/
theorem noSingleBitFlipDecodes : Obligations.NoSingleBitFlipDecodes := by
  intro addr da pl bytes tail e k b hbuilt hk hb
  have hshape := builtFrame_admittedShape hbuilt
  constructor
  · rintro rfl
    obtain ⟨hlen, fn, hfn, h3⟩ := hshape.function
    have hd : bytes.getD 3 0#8 = fn := by simp [h3]
    obtain ⟨h4, h2⟩ := flipped_function hfn hb
    rw [hd]
    exact decodeStream_unexpected (by simpa using hlen) (by simp [hk]) h4 h2 tail e
  · intro h3
    have hzero : crc16 bytes = 0#16 := by
      obtain rfl | ⟨-, rfl⟩ := hbuilt <;> exact crc16_builtFrame ..
    have hkept : AdmittedShape (bytes.set k (bytes.getD k 0#8 ^^^ (1#8 <<< b))) := by
      simpa [AdmittedShape, h3] using hshape
    exact decodeStream_mismatch hkept (hzero ▸ crc16_set_flip hk hb) tail e

end Sys2Proof.Machine
end

section
/-! SUPPORT. `HS.START` and HOST's other operations, the block's rest, and the result as HOST reads it (spec/42_handshake.md R191
to R194, R210, R214, R215). -/

namespace Sys2Proof.Machine

/-- A free block opens a session (R191). -/
theorem exec_hsStart_free {s : State} (h : Free s) (target : Option Addr) :
    exec (.hsStart target) s = .next (s.openSession target) := by
  show execHsStart target s = _
  simp only [execHsStart, h.busy, h.hostHeld, Bool.false_eq_true, if_false]

/-- Settles O24: the fields that `HS.START` writes and those it leaves. -/
theorem startOpensASession : Obligations.StartOpensASession := by
  intro s target hf
  have given : ∀ a, target = some a → (s.openSession target).target = a := by rintro a rfl; rfl
  exact ⟨_, exec_hsStart_free hf target, rfl, rfl, given, rfl, rfl, rfl, rfl, rfl, rfl, rfl, rfl, rfl, rfl, rfl, rfl, rfl⟩

/-- Settles O25: each of the four operations has its `OPSEL`, and a run refuses them all. -/
theorem busyRefusesEveryOperation : Obligations.BusyRefusesEveryOperation :=
  fun _ hb => ⟨fun bs => exec_op_busy hb 0b00#2 { bytes := bs },
    fun fn addr da pl => exec_op_busy hb 0b01#2 { fn := fn, addr := addr, da := da, bytes := pl },
    exec_op_busy hb 0b10#2 {}, fun target => exec_op_busy hb 0b11#2 { target := target }⟩

theorem atRest_of_no_call {s : State} (h : s.inFlight = none) : s.atRest = s := by simp [State.atRest, h]

/-- Settles O35: with no call in flight nothing goes on at rest. -/
theorem idleAndDoneRest : Obligations.IdleAndDoneRest :=
  fun _ h => ⟨congrArg _ (atRest_of_no_call h), congrArg _ (atRest_of_no_call h)⟩

/-- Settles O59: R215's table. -/
theorem exitStatusOfEachOutcome : Obligations.ExitStatusOfEachOutcome :=
  ⟨rfl, fun _ => rfl, fun _ => rfl, fun _ => rfl, fun _ => rfl, fun _ => rfl, rfl⟩

/-! ### What outcome the registers hold in a legal state (R214) -/

/-- A cause that goes with a failed `DECODE` gives its error. -/
theorem latchedError_isSome {s : State} (h : s.cause = .shortRead ∨ s.cause = .unexpectedFunction ∨ s.cause = .checksumMismatch) :
    s.latchedError.isSome = true := by
  rcases h with h | h | h <;> simp [State.latchedError, h]

/-- Where `CAUSE` goes with `OUTCOME` there is a result exactly if there is an outcome. -/
theorem result_isSome_iff {s : State} (h : causeFits s.outcome s.cause = true) :
    s.result.isSome = true ↔ s.outcome ≠ .none := by
  cases ho : s.outcome <;> rw [ho] at h <;> simp only [State.result, ho]
  case identFailed | confirmFailed =>
    have he : s.latchedError.isSome = true := latchedError_isSome (by simpa [causeFits, or_assoc] using h)
    simp [he]
  all_goals simp

/-- The registers hold the outcome `r`: `OUTCOME` is its kind, and a value that it carries stands in its register
(spec/10_state.md R31 to R35). -/
def HoldsOutcome (s : State) : RunOutcome → Prop
  | .noChange => s.outcome = .noChange
  | .confirmed a => s.outcome = .confirmed ∧ s.rxAddr = a
  | .rejectedAddress a => s.outcome = .rejectedAddress ∧ s.rxAddr = a
  | .rejectedFunction fn => s.outcome = .rejectedFunction ∧ s.rxFn = fn
  | .identFailed e => s.outcome = .identFailed ∧ s.latchedError = some e
  | .writeFailed => s.outcome = .writeFailed
  | .confirmFailed e => s.outcome = .confirmFailed ∧ s.latchedError = some e

/-- A result is read from the registers that hold it (R214). -/
theorem holdsOutcome_of_result {s : State} {r : RunOutcome} (h : s.result = some r) : HoldsOutcome s r := by
  cases ho : s.outcome <;> simp only [State.result, ho, Option.map_eq_some_iff] at h
  case none => cases h
  case identFailed | confirmFailed => obtain ⟨e, he, rfl⟩ := h; exact ⟨ho, he⟩
  all_goals cases h; simp [HoldsOutcome, ho]

/-- A mismatch that the registers hold is that of `CRC_RX` and `CRC_CALC` (R33). -/
theorem latched_mismatch {s : State} {r c : Crc} (h : s.latchedError = some (.checksumMismatch r c)) :
    s.cause = .checksumMismatch ∧ s.crcRx = r ∧ s.crcCalc = c := by
  cases hc : s.cause <;> simp only [State.latchedError, hc] at h <;> cases h
  simp

/-- A legal state's result is there exactly at `Done` (R214, R31). -/
theorem Legal.done_iff {s : State} (h : Legal s) : s.phase = .done ↔ s.result.isSome = true := by
  rw [result_isSome_iff h.cause, ne_eq, h.outcome, not_not]

/-- A legal state's mismatch is one of two different values (R33). -/
theorem Legal.latched_ne {s : State} (h : Legal s) {r c : Crc} (he : s.latchedError = some (.checksumMismatch r c)) : r ≠ c := by
  obtain ⟨hc, rfl, rfl⟩ := latched_mismatch he
  exact h.mismatch hc

/-- Settles O58: the outcome that a result has been read from is one the invariant `Legal` speaks of. -/
theorem resultIsThereAtDone : Obligations.ResultIsThereAtDone := by
  intro s h
  refine ⟨h.done_iff, fun a hr => ?_, fun a hr => ?_, fun fn hr => ?_, fun r c hr => ?_, fun e hr => ?_⟩
  · obtain ⟨ho, rfl⟩ := holdsOutcome_of_result hr
    exact h.confirmed ho
  · obtain ⟨ho, rfl⟩ := holdsOutcome_of_result hr
    exact h.rejectedAddress ho
  · obtain ⟨ho, rfl⟩ := holdsOutcome_of_result hr
    exact h.rejectedFunction ho
  · rcases hr with hr | hr <;> exact h.latched_ne (holdsOutcome_of_result hr).2
  · obtain ⟨ho, -⟩ := holdsOutcome_of_result hr
    have hp : s.phase = .done := h.done_iff.mpr (by simp [hr])
    simp [State.discovered, (h.discoveredAtDone hp).mpr ho]

end Sys2Proof.Machine
end

section
/-! SUPPORT. Which instruction or move a step takes (spec/42_handshake.md R194, spec/30_encoding.md R112). -/

namespace Sys2Proof.Machine

/-- The step of a decoded instruction. -/
theorem step_of_nextCode {s : State} {c : Code} {i : Instr} (hc : s.nextCode = some c) (hi : decode c = .ok i) :
    step s = exec i s.popInput := by
  simp [step, hc, hi, Decoded.instr]

/-- A move that selects no instruction is taken. -/
theorem step_of_no_code {s : State} {i : Input} (hn : s.nextInput = some i) (hc : s.nextCode = none) :
    step s = .next (s.popInput.takeInput i) := by
  simp [step, hc, State.stepInput, hn]

/-- A frame's instruction receives its bytes, those it is encoded to (spec/30_encoding.md R103, R104, R114). -/
theorem exec_of_inbound {i : Instr} {bytes : List Byte} (h : encode i = .frame .inbound bytes) (s : State) :
    exec i s = .next (s.receive bytes) := by
  cases i <;> cases h
  case ident => rfl
  case confirm => rfl
  case frameRead => rfl
  case frameControl => rfl

/-- Bytes received are received, whether or not they are a frame of the table (spec/20_memory.md R83). -/
theorem step_received {s : State} {bytes : List Byte} (hn : s.nextInput = some (.received bytes)) :
    step s = .next (s.popInput.receive bytes) := by
  have hc : s.nextCode = some (.frame .inbound bytes) := by simp [State.nextCode, hn]
  cases hd : decodeInbound bytes with
  | ok i => rw [step_of_nextCode hc hd, exec_of_inbound (encode_of_decodeInbound hd)]
  | rejected why => simp [step, hc, decode, hd, Decoded.instr, State.stepInput, hn, State.takeInput]

/-- With no move that can happen, or where HOST waits, `PHASE` selects the step (R194). -/
theorem nextCode_phase {s : State} (hn : s.nextInput = none ∨ s.nextInput = some .wait) :
    s.nextCode = some (.phase s.phase.code) := by
  rcases hn with hn | hn <;> simp [State.nextCode, hn]

/-- Settles O52, move by move. -/
theorem stepRunsTheNextInstruction : Obligations.StepRunsTheNextInstruction := by
  refine ⟨fun s c i hc hi => step_of_nextCode hc hi, fun s hn => ?_, fun s arg opsel hn => ?_, fun s bytes hn => step_received hn,
    fun s e hn => ?_, fun s a hn => ?_, fun s h => nextInput_nil h, fun s i rest h hi => nextInput_cons h ?_⟩
  · have hq : s.popInput = s := popInput_none hn
    obtain ⟨i, hi⟩ := decode_phase s.phase
    exact ⟨hq, i, hi, by rw [step_of_nextCode (nextCode_phase (.inl hn)) hi, hq]⟩
  · exact ⟨_, rfl, step_of_nextCode (c := .op opsel arg) (by simp [State.nextCode, hn]) rfl⟩
  · exact step_of_no_code hn (by simp [State.nextCode, hn])
  · exact step_of_no_code hn (by simp [State.nextCode, hn])
  · rcases hi with hb | hf | hi
    · exact admits_of_not_hostHeld (hostHeld_of_busy hb) i
    · exact admits_of_not_hostHeld (by simp [State.hostHeld, hf]) i
    · exact admits_of_not_command s hi

/-- Settles O57: the view is the registers', which the queue of moves is no part of. -/
theorem resultReadHasNoSideEffect : Obligations.ResultReadHasNoSideEffect := by
  intro s hn
  exact ⟨s.view, step_of_no_code hn (by simp [State.nextCode, hn]), rfl, rfl, rfl, rfl,
    fun h => if_pos h, fun h => if_neg (Bool.eq_false_iff.mp h), fun h => if_pos h, fun h => if_neg (Bool.eq_false_iff.mp h),
    fun h => if_pos h, fun h => if_neg (Bool.eq_false_iff.mp h)⟩

end Sys2Proof.Machine
end

section
/-! SUPPORT. What each effect of a step makes of `PHASE` (spec/42_handshake.md R219), from every state, a legal one or not. -/

namespace Sys2Proof.Machine

/-- A comparison writes what a `DECODE` writes (spec/41_codec.md R168, R169, R174). -/
theorem decodeCompare_sameSession {s t : State} (h : SameSession s t) : SameSession s t.decodeCompare.state := by
  rw [decodeCompare_eq]
  split <;> (rw [h]; rfl)

theorem decodeExtra_sameSession (s : State) : SameSession s s.decodeExtra.state := by
  cases hx : s.rx with
  | cons x rest =>
    rw [decodeExtra_got hx]
    exact decodeCompare_sameSession rfl
  | nil =>
    obtain he | he := s.rxEnd.closes_or_stalls
    · rw [decodeExtra_closes hx he]; rfl
    · rw [decodeExtra_stalls hx he]; rfl

/-- Whatever state it begins or goes on in, a `DECODE` writes no register of the session (R164). -/
theorem decodeRun_sameSession (s : State) : SameSession s s.decodeRun.state := by
  by_cases hi : s.inFlight = some (.read 1)
  · rw [decodeRun_extra hi]
    exact decodeExtra_sameSession s
  · exact (DecodeLeaves.of_follows (u := s) rfl (decodeRun_follows hi)).sameSession

theorem failRun_phase (s : State) (o : OutcomeCode) (e : DecodeError) : (s.failRun o e).phase = .done := by
  cases e <;> rfl

theorem judgeConfirm_phase (s : State) (f : Frame) : (s.judgeConfirm f).phase = .done := by
  unfold State.judgeConfirm
  split_ifs <;> rfl

theorem hostDecode_phase (s : State) : s.hostDecode.phase = s.phase := by
  have hs := (decodeRun_sameSession s).phase
  unfold State.hostDecode
  cases hr : s.decodeRun <;> rw [hr] at hs <;> exact hs

/-- From `s` to `t` the sequencer has stayed in its phase or has taken an arrow of the table. -/
def StaysOrFollows (s t : State) : Prop := t.phase = s.phase ∨ phaseArrow s.phase t.phase = true

theorem stepAwaitIdent_arrow {s : State} (hp : s.phase = .awaitIdent) : StaysOrFollows s s.stepAwaitIdent := by
  have hs := (decodeRun_sameSession s).phase
  unfold State.stepAwaitIdent StaysOrFollows
  cases hr : s.decodeRun <;> rw [hr] at hs
  case frame => exact .inr (by rw [hp]; rfl)
  case error => exact .inr (by rw [hp, failRun_phase]; rfl)
  case held => exact .inl hs

theorem stepIdentFound_arrow {s : State} (hp : s.phase = .identFound) : StaysOrFollows s s.stepIdentFound := by
  unfold State.stepIdentFound
  split <;> exact .inr (by rw [hp]; rfl)

/-- Where a write leads from `BuildingWriteCommand`, by TRANSPORT's answers to come (R202). -/
def phaseAfterWrite : List WriteAnswer → Phase
  | .ok :: _ => .awaitConfirm
  | .writeError :: _ => .done
  | [] => .buildingWriteCommand

theorem sendBuilt_phase {s : State} (hp : s.phase = .buildingWriteCommand) :
    s.sendBuilt.phase = phaseAfterWrite s.writeAnswers := by
  match ha : s.writeAnswers with
  | .ok :: as => rw [sendBuilt_ok rfl ha]; rfl
  | .writeError :: as => rw [sendBuilt_failed rfl ha]; rfl
  | [] => rw [sendBuilt_held rfl ha]; exact hp

theorem sendCommand_phase {s : State} (hp : s.phase = .buildingWriteCommand) (t : Addr) :
    (s.sendCommand t).phase = phaseAfterWrite s.writeAnswers := by
  unfold State.sendCommand
  split
  · exact sendBuilt_phase hp
  · exact sendBuilt_phase (s := s.build _ _ _ _) hp

theorem sendCommand_arrow {s : State} (hp : s.phase = .buildingWriteCommand) (t : Addr) : StaysOrFollows s (s.sendCommand t) := by
  rw [StaysOrFollows, sendCommand_phase hp, hp]
  match s.writeAnswers with
  | .ok :: _ => exact .inr rfl
  | .writeError :: _ => exact .inr rfl
  | [] => exact .inl rfl

theorem stepAwaitConfirm_arrow {s : State} (hp : s.phase = .awaitConfirm) : StaysOrFollows s s.stepAwaitConfirm := by
  have hs := (decodeRun_sameSession s).phase
  unfold State.stepAwaitConfirm StaysOrFollows
  cases hr : s.decodeRun <;> rw [hr] at hs
  case frame => exact .inr (by rw [hp, judgeConfirm_phase]; rfl)
  case error => exact .inr (by rw [hp, failRun_phase]; rfl)
  case held => exact .inl hs

/-- Every effect of a step but a start and a reset stays in the phase or follows an arrow. -/
theorem StepEffect.phase {s u t : State} (e : StepEffect s u t) :
    StaysOrFollows u t ∨ (s.startNext ∧ NotBusy u ∧ t.phase = .awaitIdent) ∨ (s.resetNext ∧ t.phase = .idle) := by
  cases e with
  | unchanged => exact .inl (.inl rfl)
  | reset hn => exact .inr (.inr ⟨hn, rfl⟩)
  | start hn hf _ => exact .inr (.inl ⟨hn, hf.1, rfl⟩)
  | encode => exact .inl (.inl rfl)
  | decode => exact .inl (.inl (hostDecode_phase u))
  | awaitIdent hp => exact .inl (stepAwaitIdent_arrow hp)
  | identFound hp => exact .inl (stepIdentFound_arrow hp)
  | buildingWriteCommand hp => exact .inl (sendCommand_arrow hp u.target)
  | awaitConfirm hp => exact .inl (stepAwaitConfirm_arrow hp)

/-- Settles O42: a step has one of the effects of `StepEffect`, on the phase of the state before it. -/
theorem phaseMovesAlongTheArrows : Obligations.PhaseMovesAlongTheArrows := by
  intro s t hs
  obtain ⟨u, he, hu⟩ := step_effect hs
  have hmoved := he.phase
  rwa [StaysOrFollows, NotBusy, hu.phase, hu.busy, or_assoc] at hmoved

end Sys2Proof.Machine
end

section
/-! SUPPORT. The steps of a run: the two that wait for a frame where a `DECODE` gives them none, and the step of `IdentFound`
(spec/42_handshake.md R195 to R199, R205 to R209). -/

namespace Sys2Proof.Machine

section
variable {s t : State} {o : OutcomeCode} {e : DecodeError} (h : EndsOn s t o e)
include h

theorem EndsOn.outcome : t.outcome = o := by obtain ⟨ho, -⟩ := h; exact ho
theorem EndsOn.phase : t.phase = .done := by obtain ⟨-, hp, -⟩ := h; exact hp
theorem EndsOn.inFlight : t.inFlight = none := by obtain ⟨-, -, -, hi, -⟩ := h; exact hi

/-- Only the result registers, what `DECODE` writes, and `PHASE` are written. -/
theorem EndsOn.frame : t = { s with
    outcome := t.outcome, cause := t.cause, phase := t.phase, rxFn := t.rxFn, crcRx := t.crcRx, crcCalc := t.crcCalc,
    rx := t.rx, rxb := t.rxb, rxlen := t.rxlen, rxfValid := t.rxfValid, acc := t.acc, inFlight := t.inFlight,
    draws := t.draws } := by
  obtain ⟨-, -, -, -, -, hf⟩ := h; exact hf

theorem EndsOn.discValid : t.discValid = s.discValid := (congrArg State.discValid h.frame :)
theorem EndsOn.discovered : t.discovered = s.discovered := (congrArg State.discovered h.frame :)
theorem EndsOn.tx : t.tx = s.tx := (congrArg State.tx h.frame :)

/-- The error is read back from the registers it is latched in (spec/60_exceptions.md R230). -/
theorem EndsOn.latchedError : t.latchedError = some e := by
  obtain ⟨-, -, -, -, hl, -⟩ := h
  cases e with
  | shortRead => obtain ⟨hc, -⟩ := hl; simp [State.latchedError, hc]
  | unexpectedFunction fn => obtain ⟨hc, hf, -⟩ := hl; simp [State.latchedError, hc, hf]
  | checksumMismatch r c => obtain ⟨hc, -, hr, hk⟩ := hl; simp [State.latchedError, hc, hr, hk]

end

section
variable {s : State} (h : StageFits s)
include h

theorem stepAwaitIdent_short (hs : decodeStream s.decodeBytes s.rxEnd = .short) :
    EndsOn s s.stepAwaitIdent .identFailed .shortRead ∧ s.stepAwaitIdent.rx <:+ s.rx := by
  obtain ⟨b, l, rest, n, -, hr, ht⟩ := decodeRun_short h hs
  rw [State.stepAwaitIdent, ht]
  exact ⟨endsOn_failRun s _ .shortRead rest b l s.acc n, hr⟩

theorem stepAwaitIdent_held (hs : decodeStream s.decodeBytes s.rxEnd = .held) :
    HeldReading s s.stepAwaitIdent ∧ (s.inFlight = some (.read 1) → s.stepAwaitIdent = s) := by
  obtain ⟨t, ht, hh⟩ := decodeRun_held h hs
  rw [State.stepAwaitIdent, ht]
  exact hh

theorem stepAwaitConfirm_short (hs : decodeStream s.decodeBytes s.rxEnd = .short) :
    EndsOn s s.stepAwaitConfirm .confirmFailed .shortRead ∧ s.stepAwaitConfirm.rx <:+ s.rx := by
  obtain ⟨b, l, rest, n, -, hr, ht⟩ := decodeRun_short h hs
  rw [State.stepAwaitConfirm, ht]
  exact ⟨endsOn_failRun s _ .shortRead rest b l s.acc n, hr⟩

theorem stepAwaitConfirm_held (hs : decodeStream s.decodeBytes s.rxEnd = .held) :
    HeldReading s s.stepAwaitConfirm ∧ (s.inFlight = some (.read 1) → s.stepAwaitConfirm = s) := by
  obtain ⟨t, ht, hh⟩ := decodeRun_held h hs
  rw [State.stepAwaitConfirm, ht]
  exact hh

end

/-- Settles O27: the frame that the bytes give is what `AwaitIdent` accepts. -/
theorem awaitIdentCapturesTheAddress : Obligations.AwaitIdentCapturesTheAddress := by
  intro s f rest h hs
  obtain ⟨t, hr, ht⟩ := stepAwaitIdent_frame h hs
  exact ⟨t, hr, congrArg Host.Outcome.next ht⟩

/-- Settles O28, by the three ends of a stream that gives no frame. -/
theorem awaitIdentFails : Obligations.AwaitIdentFails := by
  intro s h
  refine ⟨fun e rest hs => ?_, fun hs => ?_, fun hs => ⟨_, rfl, stepAwaitIdent_held h hs⟩⟩
  · obtain ⟨he, hx⟩ := stepAwaitIdent_error h hs
    exact ⟨_, rfl, he, hx, he.discValid, he.tx⟩
  · obtain ⟨he, hx⟩ := stepAwaitIdent_short h hs
    exact ⟨_, rfl, he, hx, he.discValid, he.tx⟩

/-- Settles O33: the frame that the bytes give is judged, with the target as it was. -/
theorem awaitConfirmJudgesTheFrame : Obligations.AwaitConfirmJudgesTheFrame := by
  intro s f rest h hs
  obtain ⟨t, hr, ht⟩ := stepAwaitConfirm_frame h hs
  refine ⟨t, hr, fun hf => ?_, fun hf ha => ?_, fun hf ha => ?_⟩ <;> refine congrArg Host.Outcome.next (ht.trans ?_)
  · exact judgeConfirm_rejectedFunction t hf
  · exact judgeConfirm_rejectedAddress hf (hr.target ▸ ha)
  · exact judgeConfirm_confirmed hf (hr.target ▸ ha)

/-- Settles O34, by the three ends of a stream that gives no frame. -/
theorem awaitConfirmFails : Obligations.AwaitConfirmFails := by
  intro s h
  refine ⟨fun e rest hs => ?_, fun hs => ?_, fun hs => ⟨_, rfl, stepAwaitConfirm_held h hs⟩⟩
  · obtain ⟨he, hx⟩ := stepAwaitConfirm_error h hs
    exact ⟨_, rfl, he, hx, he.discValid⟩
  · obtain ⟨he, hx⟩ := stepAwaitConfirm_short h hs
    exact ⟨_, rfl, he, hx, he.discValid⟩

theorem stepIdentFound_noTarget {s : State} (h : s.targetValid = false) : s.stepIdentFound = s.endRun .noChange .none :=
  if_neg (by simp [h])

theorem stepIdentFound_target {s : State} (h : s.targetValid = true) : s.stepIdentFound = s.enter .buildingWriteCommand :=
  if_pos h

/-- Settles O29: the test is on `TARGET_VALID` alone. -/
theorem identFoundBranchesOnTheTarget : Obligations.IdentFoundBranchesOnTheTarget :=
  fun _ => ⟨fun h => congrArg Host.Outcome.next (stepIdentFound_noTarget h),
    fun h => congrArg Host.Outcome.next (stepIdentFound_target h)⟩

end Sys2Proof.Machine
end

section
/-! SUPPORT. The step of `BuildingWriteCommand` on each of TRANSPORT's three answers, with the command built before and with it to
be built (spec/42_handshake.md R200 to R203, spec/20_memory.md R67, R72). -/

namespace Sys2Proof.Machine

/-- What a failed write of the command has sent is an initial part of it, of fewer than 10 bytes (R72). -/
theorem sendBuilt_sends_part {s : State} {t : Addr} {as : List WriteAnswer} (hb : s.txBytes = commandBytes t)
    (ha : s.writeAnswers = .writeError :: as) :
    ∃ k, k < 10 ∧ s.sendBuilt =
      { s with tx := s.tx ++ (commandBytes t).take k, writeAnswers := as, inFlight := none, draws := s.draws + 1,
               outcome := .writeFailed, cause := .writeError, phase := .done } := by
  refine ⟨Config.txPartial s.draws % 10, Nat.mod_lt _ (by decide), ?_⟩
  rw [sendBuilt_failed hb ha, length_commandBytes]

/-- Settles O30: the command is built, and the write of it is answered in one of three ways. -/
theorem buildingWriteCommandSends : Obligations.BuildingWriteCommandSends := by
  intro s hi
  refine ⟨fun as ha => ?_, fun as ha => ?_, fun ha => ?_⟩
  · obtain ⟨b, a, n, hb, hsend⟩ := sendCommand_ok hi ha s.target
    exact ⟨_, congrArg Host.Outcome.next hsend, hb, rfl⟩
  all_goals obtain ⟨b, a, n, hsend, hb⟩ := sendCommand_builds (s := s) (t := s.target) (.inl (by simp [hi]))
  · obtain ⟨k, hk, hpart⟩ := sendBuilt_sends_part hb ha
    exact ⟨_, congrArg Host.Outcome.next (hsend.trans hpart), hb, ⟨k, hk, rfl⟩, by rw [← hi]⟩
  · exact ⟨_, congrArg Host.Outcome.next (hsend.trans (sendBuilt_held hb ha)), hb, by rw [length_commandBytes]⟩

/-- Held in its write, `BuildingWriteCommand` writes what stands in `TXB` (R201). -/
theorem sendCommand_of_held {s : State} (hi : s.inFlight = some (.write 10)) (t : Addr) : s.sendCommand t = s.sendBuilt :=
  if_pos hi

/-- A write that is held and not answered stays as it is (spec/70_reset_and_hazards.md R280). -/
theorem sendBuilt_unanswered {s : State} {t : Addr} (hi : s.inFlight = some (.write 10)) (hb : s.txBytes = commandBytes t)
    (ha : s.writeAnswers = []) : s.sendBuilt = s := by
  rw [sendBuilt_held hb ha, length_commandBytes, ← hi]

/-- Settles O31: what stands in `TXB` is the command for the target, and it is written as it stands. -/
theorem heldWriteGoesOn : Obligations.HeldWriteGoesOn := by
  intro s h hi
  obtain ⟨-, -, hb⟩ := h.held_write hi
  have goesOn {t : State} (ht : s.sendBuilt = t) : exec .buildingWriteCommand s = .next t :=
    congrArg Host.Outcome.next ((sendCommand_of_held hi s.target).trans ht)
  refine ⟨hb, fun as ha => goesOn (sendBuilt_ok rfl ha), fun as ha => ?_,
    fun ha => goesOn (sendBuilt_unanswered hi hb ha)⟩
  obtain ⟨k, hk, hpart⟩ := sendBuilt_sends_part hb ha
  exact ⟨k, _, hk, goesOn (hb ▸ hpart)⟩

/-- From `s` to `t` the command for `c` has been built, and sent if the run goes on; where it goes depends on the answers. -/
structure SendsCommand (s t : State) (c : Addr) : Prop where
  built : t.txBytes = commandBytes c
  sent : t.phase = .awaitConfirm → t.tx = s.tx ++ commandBytes c
  phase : t.phase = phaseAfterWrite s.writeAnswers

/-- The step depends on the target and the answers alone in what it builds, sends and goes on to (R203). -/
theorem sendCommand_sendsCommand {s : State} (hp : s.phase = .buildingWriteCommand) (hi : s.inFlight = none) :
    SendsCommand s (s.sendCommand s.target) s.target := by
  obtain ⟨hok, hfailed, hheld⟩ := buildingWriteCommandSends s hi
  have hphase := sendCommand_phase hp s.target
  match ha : s.writeAnswers with
  | .ok :: as =>
    obtain ⟨t, ht, hb, hf⟩ := hok as ha
    cases ht
    exact ⟨hb, fun _ => (congrArg State.tx hf :), hphase⟩
  | .writeError :: as =>
    obtain ⟨t, ht, hb, -⟩ := hfailed as ha
    cases ht
    exact ⟨hb, fun hc => by simp [hphase, ha, phaseAfterWrite] at hc, hphase⟩
  | [] =>
    obtain ⟨t, ht, hb, -⟩ := hheld ha
    cases ht
    exact ⟨hb, fun hc => by simp [hphase, ha, phaseAfterWrite] at hc, hphase⟩

/-- Settles O32: both blocks build and send the command for the one target. -/
theorem commandIgnoresTheIdentFrame : Obligations.CommandIgnoresTheIdentFrame := by
  intro s s' hp hp' hi hi' ht
  have h := sendCommand_sendsCommand hp hi
  have h' := sendCommand_sendsCommand hp' hi'
  rw [ht] at h'
  refine ⟨_, _, rfl, congrArg (fun c => Host.Outcome.next (s'.sendCommand c)) ht, ?_, ?_, ?_, ?_, ?_⟩
  · rw [h'.built, h.built]
  · rw [h.built, length_commandBytes]
  · rw [h.built]; exact h.sent
  · rw [h.built]; exact h'.sent
  · intro ha; rw [h'.phase, h.phase, ha]

end Sys2Proof.Machine
end

section
/-! SUPPORT. The step that `PHASE` selects, as a function of the state, and what each step of a run makes of the result that the
run function `HS.RUN` still gives (spec/42_handshake.md R194 to R211). -/

namespace Sys2Proof.Machine

/-- The step that `PHASE` selects (R194). -/
def State.ownStep (s : State) : State :=
  match s.phase with
  | .idle => s.atRest
  | .awaitIdent => s.stepAwaitIdent
  | .identFound => s.stepIdentFound
  | .buildingWriteCommand => s.sendCommand s.target
  | .awaitConfirm => s.stepAwaitConfirm
  | .done => s.atRest

theorem exec_phase_eq_ownStep {s : State} {i : Instr} (hi : decode (.phase s.phase.code) = .ok i) :
    exec i s = .next s.ownStep := by
  unfold State.ownStep
  cases hp : s.phase <;> rw [hp] at hi <;> cases hi <;> rfl

/-- With no move that can happen, or where HOST waits, the block takes its own step. -/
theorem step_eq_ownStep {s : State} (hn : s.nextInput = none ∨ s.nextInput = some .wait) : step s = .next s.popInput.ownStep := by
  obtain ⟨i, hi⟩ := decode_phase s.phase
  rw [step_of_nextCode (nextCode_phase hn) hi]
  exact exec_phase_eq_ownStep (s := s.popInput) hi

theorem ownStep_legal {s : State} (h : Legal s) : Legal s.ownStep := by
  obtain ⟨i, hi⟩ := decode_phase s.phase
  exact (exec_phase_effect (s := s) hi (exec_phase_eq_ownStep hi)).legal h

theorem ownStep_awaitIdent {s : State} (hp : s.phase = .awaitIdent) : s.ownStep = s.stepAwaitIdent := by
  simp only [State.ownStep, hp]

theorem ownStep_building {s : State} (hp : s.phase = .buildingWriteCommand) : s.ownStep = s.sendCommand s.target := by
  simp only [State.ownStep, hp]

theorem ownStep_awaitConfirm {s : State} (hp : s.phase = .awaitConfirm) : s.ownStep = s.stepAwaitConfirm := by
  simp only [State.ownStep, hp]

/-- A run that is over takes no step (R210). -/
theorem ownStep_done {s : State} (hp : s.phase = .done) (hi : s.inFlight = none) : s.ownStep = s := by
  simp only [State.ownStep, hp]
  exact atRest_of_no_call hi

/-! ### What a run gives -/

/-- The discovered address and the outcome that the run function gives from where the run stands; `none` where a call of the
rest of the run is never answered (R211). -/
def State.runGives (s : State) : Option (Option Addr × RunOutcome) :=
  match s.phase with
  | .idle => none
  | .awaitIdent => hsRun s.suppliedTarget s.decodeBytes s.rxEnd s.writeAnswers
  | .identFound => hsWrite s.disc s.suppliedTarget s.rx s.rxEnd s.writeAnswers
  | .buildingWriteCommand => hsWrite s.disc s.suppliedTarget s.rx s.rxEnd s.writeAnswers
  | .awaitConfirm => hsConfirm s.disc s.target s.decodeBytes s.rxEnd
  | .done => s.result.map fun r => (s.discovered, r)

theorem runGives_done {s : State} (hp : s.phase = .done) {d : Option Addr} {r : RunOutcome} (hd : s.discovered = d)
    (hr : s.result = some r) : s.runGives = some (d, r) := by
  simp [State.runGives, hp, hd, hr]

/-- What `HS.START` opens gives the whole function, for its target (R191, R211). -/
theorem runGives_openSession {s : State} (hf : Free s) (target : Option Addr) :
    (s.openSession target).runGives = hsRun target s.rx s.rxEnd s.writeAnswers := by
  have ht : (s.openSession target).suppliedTarget = target := by cases target <;> rfl
  have hb : (s.openSession target).decodeBytes = s.rx := decodeBytes_notExtra (s := s.openSession target) hf.notExtra
  show hsRun _ _ _ _ = _
  rw [ht, hb]
  rfl

/-- A step from `s` to `t` has taken the run further, along an arrow, towards the same end. -/
structure Advances (s t : State) : Prop where
  arrow : phaseArrow s.phase t.phase = true
  answered : t.inFlight = none
  gives : t.runGives = s.runGives
  inbox : t.inbox = s.inbox

/-- A step from `s` to `t` is held, and so is the next: TRANSPORT does not answer, and the run function gives nothing. -/
structure Stalls (s t : State) : Prop where
  phase : t.phase = s.phase
  unanswered : t.inFlight ≠ none
  stays : t.ownStep = t
  gives : s.runGives = none
  inbox : t.inbox = s.inbox

/-- A step has taken the run to its end if the result is the one that the run gives. -/
theorem advances_done {s t : State} {r : RunOutcome} (hs : phaseArrow s.phase .done = true) (hp : t.phase = .done)
    (hi : t.inFlight = none) (hd : t.discovered = s.discovered) (hr : t.result = some r)
    (hg : s.runGives = some (s.discovered, r)) (hb : t.inbox = s.inbox) : Advances s t :=
  ⟨by rw [hp, hs], hi, (runGives_done hp hd hr).trans hg.symm, hb⟩

/-! ### The two waiting steps -/

theorem compareFrame_not_held (start a b fn da : Byte) (pl : List Byte) (c d : Byte) (rest : List Byte) :
    compareFrame start a b fn da pl c d rest ≠ .held := by
  simp only [compareFrame]
  split <;> nofun

/-- Only a stream that stalls holds a `DECODE` (spec/20_memory.md R66). -/
theorem stalls_of_decodeStream_held {bs : List Byte} {x : RxEnd} (h : decodeStream bs x = .held) : x = .stalls := by
  cases x with
  | stalls => rfl
  | closes =>
    exfalso
    unfold decodeStream at h
    split at h
    · split at h
      · exact compareFrame_not_held _ _ _ _ _ _ _ _ _ h
      · split at h
        · split at h
          · exact compareFrame_not_held _ _ _ _ _ _ _ _ _ h
          · cases h
        · cases h
    · cases h

section
variable {s t : State} (h : HeldReading s t)
include h

theorem HeldReading.phase : t.phase = s.phase := (congrArg State.phase h.1 :)
theorem HeldReading.inbox : t.inbox = s.inbox := (congrArg State.inbox h.1 :)
theorem HeldReading.rxEnd : t.rxEnd = s.rxEnd := (congrArg State.rxEnd h.1 :)
theorem HeldReading.rxfValid : t.rxfValid = false := (congrArg State.rxfValid h.1 :)

theorem HeldReading.unanswered : t.inFlight ≠ none := by
  obtain ⟨-, ⟨hi, -⟩ | ⟨hi, -⟩⟩ := h <;> simp [hi]

/-- A `DECODE` that is held stays so while the channel stalls and no byte comes (spec/70_reset_and_hazards.md R280). -/
theorem HeldReading.decodeRun (he : s.rxEnd = .stalls) : t.decodeRun = .held t := by
  have hte : t.rxEnd = .stalls := h.rxEnd.trans he
  have hv : t.rxfValid = false := h.rxfValid
  obtain ⟨-, ⟨hi, hx, hlen, -⟩ | ⟨hi, hx, -⟩⟩ := h
  · have hshort : (t.withFrameValid false).rx.length < Config.minFrameLen := hx ▸ hlen
    rw [decodeRun_first (by simp [hi]), State.decodeFirst, memRead_stalls hshort hte]
    show DecodeEnd.held { t with rxfValid := false, inFlight := some (.read 7) } = _
    rw [← hv, ← hi]
  · rw [decodeRun_extra hi, decodeExtra_stalls hx hte, ← hi]

end

section
variable {s t : State} {f : Frame} {rest : List Byte} (h : Returns s t f rest)
include h

theorem Returns.rx : t.rx = rest := (congrArg State.rx h.2 :)
theorem Returns.rxEnd : t.rxEnd = s.rxEnd := (congrArg State.rxEnd h.2 :)
theorem Returns.inFlight : t.inFlight = none := (congrArg State.inFlight h.2 :)
theorem Returns.inbox : t.inbox = s.inbox := (congrArg State.inbox h.2 :)
theorem Returns.writeAnswers : t.writeAnswers = s.writeAnswers := (congrArg State.writeAnswers h.2 :)
theorem Returns.suppliedTarget : t.suppliedTarget = s.suppliedTarget := (congrArg State.suppliedTarget h.2 :)
theorem Returns.discovered : t.discovered = s.discovered := (congrArg State.discovered h.2 :)

end

theorem EndsOn.inbox {s t : State} {o : OutcomeCode} {e : DecodeError} (h : EndsOn s t o e) : t.inbox = s.inbox :=
  (congrArg State.inbox h.frame :)

/-- A decode error ends the run in one step, with the address that was there. -/
theorem EndsOn.advances {s t : State} {o : OutcomeCode} {e : DecodeError} {r : RunOutcome} (h : EndsOn s t o e)
    (hp : phaseArrow s.phase .done = true) (hr : t.result = some r) (hs : s.runGives = some (s.discovered, r)) : Advances s t :=
  advances_done hp h.phase h.inFlight h.discovered hr hs h.inbox

theorem EndsOn.result_ident {s t : State} {e : DecodeError} (h : EndsOn s t .identFailed e) :
    t.result = some (.identFailed e) := by
  simp [State.result, h.outcome, h.latchedError]

theorem EndsOn.result_confirm {s t : State} {e : DecodeError} (h : EndsOn s t .confirmFailed e) :
    t.result = some (.confirmFailed e) := by
  simp [State.result, h.outcome, h.latchedError]

/-- `AwaitIdent` goes on with the address that the stream gives, or ends on its error, or is held (R195 to R198). -/
theorem stepAwaitIdent_goesOn {s : State} (h : Legal s) (hp : s.phase = .awaitIdent) :
    Advances s s.stepAwaitIdent ∨ Stalls s s.stepAwaitIdent := by
  have hw := h.second
  have hd : s.discovered = none := by simp [State.discovered, h.undiscovered (.inr hp)]
  have hg : s.runGives = hsRun s.suppliedTarget s.decodeBytes s.rxEnd s.writeAnswers := by simp [State.runGives, hp]
  have ends {e : DecodeError} (he : EndsOn s s.stepAwaitIdent .identFailed e) (hs : s.runGives = some (none, .identFailed e)) :
      Advances s s.stepAwaitIdent := he.advances (by rw [hp]; rfl) he.result_ident (hd ▸ hs)
  unfold hsRun at hg
  cases hs : decodeStream s.decodeBytes s.rxEnd <;> rw [hs] at hg
  case frame f rest =>
    obtain ⟨t, hr, ht⟩ := stepAwaitIdent_frame hw hs
    have hgt : hsWrite f.deviceAddr t.suppliedTarget t.rx t.rxEnd t.writeAnswers = s.runGives := by
      rw [hg, hr.suppliedTarget, hr.rx, hr.rxEnd, hr.writeAnswers]
    rw [ht]
    exact .inl ⟨by rw [hp]; rfl, hr.inFlight, hgt, hr.inbox⟩
  case error e rest =>
    obtain ⟨he, -⟩ := stepAwaitIdent_error hw hs
    exact .inl (ends he hg)
  case short =>
    obtain ⟨he, -⟩ := stepAwaitIdent_short hw hs
    exact .inl (ends he hg)
  case held =>
    obtain ⟨hh, -⟩ := stepAwaitIdent_held hw hs
    have stays : s.stepAwaitIdent.ownStep = s.stepAwaitIdent := by
      rw [ownStep_awaitIdent (hh.phase.trans hp), State.stepAwaitIdent, hh.decodeRun (stalls_of_decodeStream_held hs)]
    exact .inr ⟨hh.phase, hh.unanswered, stays, hg, hh.inbox⟩

theorem judgeConfirm_result (t : State) (f : Frame) : (t.judgeConfirm f).result = some (confirmOutcome t.target f) := by
  unfold State.judgeConfirm confirmOutcome
  split_ifs <;> rfl

theorem judgeConfirm_inFlight (t : State) (f : Frame) : (t.judgeConfirm f).inFlight = t.inFlight := by
  unfold State.judgeConfirm
  split_ifs <;> rfl

theorem judgeConfirm_inbox (t : State) (f : Frame) : (t.judgeConfirm f).inbox = t.inbox := by
  unfold State.judgeConfirm
  split_ifs <;> rfl

/-- `AwaitConfirm` judges the frame that the stream gives, or ends on its error, or is held (R205 to R209). -/
theorem stepAwaitConfirm_goesOn {s : State} (h : Legal s) (hp : s.phase = .awaitConfirm) :
    Advances s s.stepAwaitConfirm ∨ Stalls s s.stepAwaitConfirm := by
  have hw := h.second
  have hd : s.discovered = some s.disc := by simp [State.discovered, h.discovered (.inr (.inr hp))]
  have hg : s.runGives = hsConfirm s.disc s.target s.decodeBytes s.rxEnd := by simp [State.runGives, hp]
  have hdone : phaseArrow s.phase .done = true := by rw [hp]; rfl
  have ends {e : DecodeError} (he : EndsOn s s.stepAwaitConfirm .confirmFailed e)
      (hs : s.runGives = some (some s.disc, .confirmFailed e)) :
      Advances s s.stepAwaitConfirm := he.advances hdone he.result_confirm (hd ▸ hs)
  unfold hsConfirm at hg
  cases hs : decodeStream s.decodeBytes s.rxEnd <;> rw [hs] at hg
  case frame f rest =>
    obtain ⟨t, hr, ht⟩ := stepAwaitConfirm_frame hw hs
    have hres : s.stepAwaitConfirm.result = some (confirmOutcome s.target f) := by rw [ht, judgeConfirm_result, hr.target]
    rw [ht] at hres ⊢
    exact .inl (advances_done hdone (judgeConfirm_phase t f) ((judgeConfirm_inFlight t f).trans hr.inFlight)
      ((judgeConfirm_discovered t f).trans hr.discovered) hres (hd ▸ hg) ((judgeConfirm_inbox t f).trans hr.inbox))
  case error e rest =>
    obtain ⟨he, -⟩ := stepAwaitConfirm_error hw hs
    exact .inl (ends he hg)
  case short =>
    obtain ⟨he, -⟩ := stepAwaitConfirm_short hw hs
    exact .inl (ends he hg)
  case held =>
    obtain ⟨hh, -⟩ := stepAwaitConfirm_held hw hs
    have stays : s.stepAwaitConfirm.ownStep = s.stepAwaitConfirm := by
      rw [ownStep_awaitConfirm (hh.phase.trans hp), State.stepAwaitConfirm, hh.decodeRun (stalls_of_decodeStream_held hs)]
    exact .inr ⟨hh.phase, hh.unanswered, stays, hg, hh.inbox⟩

/-! ### The two steps between them -/

/-- `IdentFound` ends a run without a target and goes on with one (R199). -/
theorem stepIdentFound_advances {s : State} (h : Legal s) (hp : s.phase = .identFound) : Advances s s.stepIdentFound := by
  have hi : s.inFlight = none := h.inFlight_of_identFound hp
  have hd : s.discovered = some s.disc := by simp [State.discovered, h.discovered (.inl hp)]
  have hg : s.runGives = hsWrite s.disc s.suppliedTarget s.rx s.rxEnd s.writeAnswers := by simp [State.runGives, hp]
  cases ht : s.targetValid with
  | false =>
    rw [stepIdentFound_noTarget ht]
    have hs : s.runGives = some (s.discovered, .noChange) := by simp [hg, hd, State.suppliedTarget, ht, hsWrite]
    exact advances_done (by rw [hp]; rfl) rfl hi rfl rfl hs rfl
  | true =>
    rw [stepIdentFound_target ht]
    exact ⟨by rw [hp]; rfl, hi, hg.symm, rfl⟩

/-- A write that is not answered stays as it is. -/
theorem ownStep_of_held_write {s : State} (hp : s.phase = .buildingWriteCommand) (hi : s.inFlight = some (.write 10))
    (hb : s.txBytes = commandBytes s.target) (ha : s.writeAnswers = []) : s.ownStep = s := by
  rw [ownStep_building hp, sendCommand_of_held hi, sendBuilt_unanswered hi hb ha]

/-- The write of the command goes on, ends the run or is held, as TRANSPORT answers (R202). -/
theorem sendBuilt_goesOn {s : State} (h : Legal s) (hp : s.phase = .buildingWriteCommand)
    (hb : s.txBytes = commandBytes s.target) : Advances s s.sendBuilt ∨ Stalls s s.sendBuilt := by
  have hd : s.discovered = some s.disc := by simp [State.discovered, h.discovered (.inr (.inl hp))]
  have hg : s.runGives = hsWrite s.disc (some s.target) s.rx s.rxEnd s.writeAnswers := by
    simp [State.runGives, hp, State.suppliedTarget, h.targeted (.inl hp)]
  match ha : s.writeAnswers with
  | .ok :: as =>
    rw [sendBuilt_ok hb ha]
    rw [ha] at hg
    exact .inl ⟨by rw [hp]; rfl, rfl, hg.symm, rfl⟩
  | .writeError :: as =>
    rw [sendBuilt_failed hb ha]
    have hs : s.runGives = some (s.discovered, .writeFailed) := by rw [hg, ha, hd]; rfl
    exact .inl (advances_done (by rw [hp]; rfl) rfl rfl rfl rfl hs rfl)
  | [] =>
    rw [sendBuilt_held hb ha, length_commandBytes]
    rw [ha] at hg
    exact .inr ⟨rfl, nofun, ownStep_of_held_write hp rfl hb ha, hg, rfl⟩

/-- Building the command changes nothing of what a run has come to. -/
theorem goesOn_of_build {s t : State} {fn : Byte} {addr : Addr} {da : DataAddr} {pl : List Byte}
    (h : Advances (s.build fn addr da pl) t ∨ Stalls (s.build fn addr da pl) t) : Advances s t ∨ Stalls s t :=
  h.imp (fun ha => ⟨ha.arrow, ha.answered, ha.gives, ha.inbox⟩)
    (fun hs => ⟨hs.phase, hs.unanswered, hs.stays, hs.gives, hs.inbox⟩)

/-- `BuildingWriteCommand` writes a command that stands built, or that it has built (R200, R201). -/
theorem sendCommand_goesOn {s : State} (h : Legal s) (hp : s.phase = .buildingWriteCommand) :
    Advances s (s.sendCommand s.target) ∨ Stalls s (s.sendCommand s.target) := by
  unfold State.sendCommand
  split
  next hi =>
    obtain ⟨-, -, hb⟩ := h.held_write hi
    exact sendBuilt_goesOn h hp hb
  next hi =>
    have hpl : (commandPayload s.target).length ≤ 4 := by simp [commandPayload]
    have hl := h.build (h.inFlight_of_building hp hi) (by simp [hp]) Config.fnWrite Config.broadcast Config.writeCmdDataAddr hpl
    exact goesOn_of_build (sendBuilt_goesOn hl hp (txBytes_build s _ _ _ hpl))

/-- A step of a run takes it further or is held. -/
theorem ownStep_goesOn {s : State} (h : Legal s) (hb : s.busy = true) : Advances s s.ownStep ∨ Stalls s s.ownStep := by
  unfold State.ownStep
  cases hp : s.phase
  case awaitIdent => exact stepAwaitIdent_goesOn h hp
  case identFound => exact .inl (stepIdentFound_advances h hp)
  case buildingWriteCommand => exact sendCommand_goesOn h hp
  case awaitConfirm => exact stepAwaitConfirm_goesOn h hp
  all_goals simp [State.busy, hp, Phase.inRun] at hb

end Sys2Proof.Machine
end

section
/-! SUPPORT. The run of the machine: with no moves to come it is over, or held for ever, after at most four steps, as the run
function says (spec/42_handshake.md R211); the moves to come, each a step, only come first (R212). -/

namespace Sys2Proof.Machine

/-- The block is in a run, or a run is over. -/
structure InRun (s : State) : Prop where
  legal : Legal s
  live : s.busy = true ∨ (s.phase = .done ∧ s.inFlight = none)

theorem openSession_inRun {s : State} (hf : Free s) (target : Option Addr) : InRun (s.openSession target) :=
  ⟨openSession_legal hf.2 target, .inl rfl⟩

theorem SameRegisters.inFlight {s u : State} (h : SameRegisters s u) : u.inFlight = s.inFlight := (congrArg State.inFlight h :)

theorem InRun.of_sameRegisters {s u : State} (h : InRun s) (hu : SameRegisters s u) : InRun u :=
  ⟨h.legal.of_sameRegisters hu, by rw [hu.busy, hu.phase, hu.inFlight]; exact h.live⟩

/-- An arrow leads to a phase of a run or to its end. -/
theorem phaseArrow_to {p q : Phase} (h : phaseArrow p q = true) : q.inRun = true ∨ q = .done := by
  cases q <;> simp [Phase.inRun]
  case idle => cases p <;> cases h

theorem InRun.ownStep {s : State} (h : InRun s) : InRun s.ownStep ∧ s.ownStep.inbox = s.inbox := by
  obtain hb | ⟨hp, hi⟩ := h.live
  · obtain ha | hs := ownStep_goesOn h.legal hb
    · exact ⟨⟨ownStep_legal h.legal, (phaseArrow_to ha.arrow).imp_right (⟨·, ha.answered⟩)⟩, ha.inbox⟩
    · have hb' : s.ownStep.busy = true := by rw [State.busy, hs.phase]; exact hb
      exact ⟨⟨ownStep_legal h.legal, .inl hb'⟩, hs.inbox⟩
  · rw [ownStep_done hp hi]
    exact ⟨h, rfl⟩

/-! ### No moves to come -/

/-- A block that a step leaves as it is, any number of steps leave so. -/
theorem run_of_step_self {s : State} (h : step s = .next s) (k : Nat) : core.run k s = .next s := by
  induction k with
  | zero => rfl
  | succ k ih => rw [run_next h, ih]

theorem step_of_inbox_nil {s : State} (hb : s.inbox = []) : step s = .next s.ownStep := by
  have hn : s.nextInput = none := nextInput_nil hb
  rw [step_eq_ownStep (.inl hn), popInput_none hn]

/-- The block is over with a result and a discovered address, or, where the run function gives none, held in a call (R211). -/
def EndsWith (u : State) : Option (Option Addr × RunOutcome) → Prop
  | some r => u.phase = .done ∧ u.discovered = r.1 ∧ u.result = some r.2 ∧ u.inFlight = none
  | none => u.busy = true ∧ u.inFlight ≠ none ∧ u.outcome = .none

/-- The steps a run still takes at most (R212). -/
def Phase.stepsLeft : Phase → Nat
  | .awaitIdent => 4
  | .identFound => 3
  | .buildingWriteCommand => 2
  | .awaitConfirm => 1
  | .done => 0
  | .idle => 0

theorem Phase.stepsLeft_le_four (p : Phase) : p.stepsLeft ≤ 4 := by cases p <;> decide

theorem stepsLeft_lt_of_phaseArrow {p q : Phase} (h : phaseArrow p q = true) : q.stepsLeft < p.stepsLeft := by
  cases p <;> cases q <;> revert h <;> decide

theorem Phase.stepsLeft_pos {p : Phase} (h : p.inRun = true) : 0 < p.stepsLeft := by
  cases p <;> revert h <;> decide

/-- A run that is over gives what it has given. -/
theorem InRun.endsWith_done {s : State} (h : InRun s) (hp : s.phase = .done) (hi : s.inFlight = none) :
    EndsWith s s.runGives := by
  obtain ⟨r, hr⟩ := Option.isSome_iff_exists.mp (h.legal.done_iff.mp hp)
  rw [runGives_done hp rfl hr]
  exact ⟨hp, rfl, hr, hi⟩

/-- A step that is held gives nothing. -/
theorem Stalls.endsWith {s t : State} (hs : Stalls s t) (hb : s.busy = true) (h : Legal t) : EndsWith t s.runGives := by
  have hb' : t.busy = true := by rw [State.busy, hs.phase]; exact hb
  rw [hs.gives]
  exact ⟨hb', hs.unanswered, h.outcome.mpr fun hp => by simp [State.busy, hp, Phase.inRun] at hb'⟩

/-- With no moves to come a run comes to rest where the run function says, by induction on the steps that it may still take. -/
theorem InRun.comesToRest {s : State} (h : InRun s) (hb : s.inbox = []) {k : Nat} (hk : s.phase.stepsLeft ≤ k) :
    ∃ u, core.run k s = .next u ∧ step u = .next u ∧ EndsWith u s.runGives := by
  induction k generalizing s with
  | zero =>
    obtain hbusy | ⟨hp, hi⟩ := h.live
    · have := Phase.stepsLeft_pos hbusy
      omega
    · exact ⟨s, rfl, by rw [step_of_inbox_nil hb, ownStep_done hp hi], h.endsWith_done hp hi⟩
  | succ k ih =>
    have hstep : step s = .next s.ownStep := step_of_inbox_nil hb
    obtain ⟨ht, hib⟩ := h.ownStep
    obtain hbusy | ⟨hp, hi⟩ := h.live
    · obtain ha | hs := ownStep_goesOn h.legal hbusy
      · have hlt := stepsLeft_lt_of_phaseArrow ha.arrow
        obtain ⟨u, hu, hself, he⟩ := ih ht (hib.trans hb) (by omega)
        exact ⟨u, (run_next hstep k).trans hu, hself, ha.gives ▸ he⟩
      · have hself : step s.ownStep = .next s.ownStep := by rw [step_of_inbox_nil (hib.trans hb), hs.stays]
        exact ⟨s.ownStep, (run_next hstep k).trans (run_of_step_self hself k), hself, hs.endsWith hbusy ht.legal⟩
    · have hself : step s = .next s := by rw [hstep, ownStep_done hp hi]
      exact ⟨s, run_of_step_self hself _, hself, h.endsWith_done hp hi⟩

/-- A free block with no moves to come: four steps after `HS.START` the run is at rest as the function says (R211). -/
theorem run_openSession {s : State} (hf : Free s) (hb : s.inbox = []) (target : Option Addr) :
    ∃ u, core.run 4 (s.openSession target) = .next u ∧ step u = .next u ∧
      EndsWith u (hsRun target s.rx s.rxEnd s.writeAnswers) := by
  rw [← runGives_openSession hf target]
  exact (openSession_inRun hf target).comesToRest hb (Phase.stepsLeft_le_four _)

/-- Settles O37: each step of the run is one towards the function's result, and there are at most four. -/
theorem runIsTheRunFunction : Obligations.RunIsTheRunFunction := by
  intro s target hf hb
  obtain ⟨u, hu, -, he⟩ := run_openSession hf hb target
  refine ⟨_, u, exec_hsStart_free hf target, hu, ?_⟩
  cases hg : hsRun target s.rx s.rxEnd s.writeAnswers <;> rw [hg] at he <;> exact he

/-- Where a run comes to rest, its calls are answered exactly if none is in flight there (spec/70_reset_and_hazards.md R279). -/
theorem answers_iff_of_step_self {s u : State} {target : Option Addr} {n : Nat}
    (hu : core.run n (s.openSession target) = .next u) (hself : step u = .next u) : Answers s target ↔ u.inFlight = none := by
  constructor
  · intro ha
    by_contra hi
    obtain ⟨c, hc⟩ := Option.ne_none_iff_exists'.mp hi
    obtain ⟨m, w, hw, hwc⟩ := ha n u c hu hc
    rw [run_add hu, run_of_step_self hself] at hw
    cases hw
    exact hwc hc
  · intro hi k _ c _ _
    exact ⟨n, u, by rw [Nat.add_comm, run_add hu, run_of_step_self hself], by simp [hi]⟩

theorem EndsWith.inFlight_iff {u : State} {g : Option (Option Addr × RunOutcome)} (h : EndsWith u g) :
    u.inFlight = none ↔ g.isSome = true := by
  cases g with
  | none =>
    obtain ⟨-, hi, -⟩ := h
    simp [hi]
  | some r =>
    obtain ⟨-, -, -, hi⟩ := h
    simp [hi]

/-- Settles O39: where the run rests, a call is in flight exactly where the function gives nothing. -/
theorem answersIsWhereTheRunFunctionEnds : Obligations.AnswersIsWhereTheRunFunctionEnds := by
  intro s target hf hb
  obtain ⟨u, hu, hself, he⟩ := run_openSession hf hb target
  exact (answers_iff_of_step_self hu hself).trans he.inFlight_iff

/-! ### Moves to come -/

/-- Bytes that reach the block join the stream, or a step of its own is taken with them there. -/
theorem receive_deliver_or_ownStep (s : State) (bytes : List Byte) :
    s.receive bytes = s.deliver bytes ∨ s.receive bytes = (s.deliver bytes).ownStep := by
  cases hr : s.reading with
  | false => exact .inl (receive_of_not_reading hr bytes)
  | true =>
    obtain ⟨i, hi⟩ := decode_phase s.phase
    have he := (receive_eq_exec_phase hr hi bytes).trans (exec_phase_eq_ownStep (s := s.deliver bytes) hi)
    exact .inr (Host.Outcome.next.inj he)

theorem InRun.receive {s : State} (h : InRun s) (bytes : List Byte) :
    InRun (s.receive bytes) ∧ (s.receive bytes).inbox = s.inbox := by
  have hd : InRun (s.deliver bytes) := h.of_sameRegisters rfl
  obtain he | he := receive_deliver_or_ownStep s bytes <;> rw [he]
  · exact ⟨hd, rfl⟩
  · exact hd.ownStep

/-- A move that is no operation of HOST and no reset leaves the block in its run, and is gone. -/
theorem InRun.step_move {s : State} (h : InRun s) {i : Input} {rest : List Input} (hb : s.inbox = i :: rest) (hr : i ≠ .reset)
    (hc : ∀ opsel arg, i ≠ .command opsel arg) : ∃ t, step s = .next t ∧ InRun t ∧ t.inbox = rest := by
  obtain ⟨hn, hq⟩ := nextInput_cons hb (admits_of_not_command s hc)
  have hu : InRun s.popInput := h.of_sameRegisters rfl
  have hrest : s.popInput.inbox = rest := by rw [hq]
  cases i with
  | command opsel arg => exact absurd rfl (hc opsel arg)
  | reset => exact absurd rfl hr
  | wait =>
    obtain ⟨ht, hib⟩ := hu.ownStep
    exact ⟨_, step_eq_ownStep (.inr hn), ht, hib.trans hrest⟩
  | received bytes =>
    obtain ⟨ht, hib⟩ := hu.receive bytes
    exact ⟨_, step_received hn, ht, hib.trans hrest⟩
  | readResult => exact ⟨_, step_of_no_code hn (by simp [State.nextCode, hn]), hu.of_sameRegisters rfl, hrest⟩
  | channel e => exact ⟨_, step_of_no_code hn (by simp [State.nextCode, hn]), hu.of_sameRegisters rfl, hrest⟩
  | writeAnswer a => exact ⟨_, step_of_no_code hn (by simp [State.nextCode, hn]), hu.of_sameRegisters rfl, hrest⟩

/-- A move is a step: after as many steps as there are moves to come the block is still in its run and none is to come. -/
theorem InRun.run_moves {s : State} {moves : List Input} (h : InRun s) (hb : s.inbox = moves) (hw : HostWaits s) :
    ∃ v, core.run moves.length s = .next v ∧ InRun v ∧ v.inbox = [] := by
  induction moves generalizing s with
  | nil => exact ⟨s, rfl, h, hb⟩
  | cons i rest ih =>
    unfold HostWaits at hw
    rw [hb, List.forall_mem_cons] at hw
    obtain ⟨⟨hr, hc⟩, hrest⟩ := hw
    obtain ⟨t, hs, ht, htb⟩ := h.step_move hb hr hc
    obtain ⟨v, hv, hrun, hvb⟩ := ih ht htb (show ∀ j ∈ t.inbox, _ by rw [htb]; exact hrest)
    exact ⟨v, (run_next hs rest.length).trans hv, hrun, hvb⟩

/-- Settles O38: once the moves are made the run comes to rest within four steps, and an answered one rests in `Done`. -/
theorem answeredRunEnds : Obligations.AnsweredRunEnds := by
  intro s target n hf hw ha hn
  obtain ⟨v, hv, hrun, hvb⟩ := (openSession_inRun hf target).run_moves (moves := s.inbox) rfl hw
  have hk : v.phase.stepsLeft ≤ n - s.inbox.length := v.phase.stepsLeft_le_four.trans (by omega)
  obtain ⟨u, hu, hself, he⟩ := hrun.comesToRest hvb hk
  have hnu : core.run n (s.openSession target) = .next u := by
    rw [← hu, ← run_add hv, Nat.add_sub_cancel' (by omega)]
  have hi : u.inFlight = none := (answers_iff_of_step_self hnu hself).mp ha
  obtain ⟨r, hr⟩ := Option.isSome_iff_exists.mp (he.inFlight_iff.mp hi)
  rw [hr] at he
  obtain ⟨hp, -, hres, -⟩ := he
  exact ⟨_, u, exec_hsStart_free hf target, hnu, hp, by simp [hres]⟩

end Sys2Proof.Machine
end

section
/-! SUPPORT. Errors end an operation, never the machine (spec/60_exceptions.md R234, R235, R244). -/

namespace Sys2Proof.Machine

/-- Settles O17: 7 bytes with another function end the stream's `DECODE` with that function. -/
theorem decodeRejectsOtherFunctions : Obligations.DecodeRejectsOtherFunctions := by
  intro s b0 b1 b2 fn b4 b5 b6 rest hf h2 h4 hx
  have hs : decodeStream s.rx s.rxEnd = .error (.unexpectedFunction fn) rest := by
    rw [hx]
    exact decodeStream_unexpected (l := [b0, b1, b2, fn, b4, b5, b6]) le_rfl rfl h4 h2 rest s.rxEnd
  exact exec_decode_error hf hs

/-- Each instruction has a next state from every state; only an operation of HOST and the command ask first what the block is
doing. -/
theorem exec_goesOn (i : Instr) (s : State) : ∃ t, exec i s = .next t := by
  cases i with
  | crc16 | decode | hsStart =>
    simp only [exec, execCrc16, execDecode, execHsStart]
    split_ifs <;> exact ⟨_, rfl⟩
  | setAddr =>
    simp only [exec, execSetAddr]
    split_ifs <;> exact ⟨_, rfl⟩
  | encode | idle | awaitIdent | identFound | buildingWriteCommand | awaitConfirm | done | ident | confirm | frameRead
    | frameControl => exact ⟨_, rfl⟩

/-- Settles O53: the next instruction goes on, and so does a move that selects none. -/
theorem everyStepGoesOn : Obligations.EveryStepGoesOn := by
  intro s
  unfold step
  split
  next i _ => exact exec_goesOn i s.popInput
  next => exact ⟨_, rfl⟩

end Sys2Proof.Machine
end

section
/-! SUPPORT. A reset, as the step of HOST's move (spec/70_reset_and_hazards.md R270, R271). -/

namespace Sys2Proof.Machine

/-- Settles O54: the move's step is `State.resetBlock`, which writes the registers and none of the environment. -/
theorem resetPutsTheRegistersBack : Obligations.ResetPutsTheRegistersBack := by
  refine ⟨fun s hn => ?_, rfl, rfl, rfl, rfl, rfl, rfl, rfl, rfl⟩
  have hs : step s = .next s.popInput.resetBlock := step_of_no_code hn (by simp [State.nextCode, hn])
  exact ⟨_, hs, rfl, rfl, rfl, rfl, rfl, rfl, rfl, rfl, rfl, rfl, rfl, rfl, rfl, rfl⟩

end Sys2Proof.Machine
end

section
/-! SUPPORT. A hold that nothing from outside lifts: the block's own step is the identity there (spec/70_reset_and_hazards.md R280,
spec/20_memory.md R66, R67). -/

namespace Sys2Proof.Machine

/-- A legal block with a read in flight that its stream cannot supply is where that hold leads (spec/10_state.md R41). -/
theorem Legal.heldReading_self {s : State} (h : Legal s) {n : Nat} (hi : s.inFlight = some (.read n)) (hx : s.rx.length < n) :
    HeldReading s s := by
  have hc := h.call
  rw [State.callFits, hi] at hc
  obtain ⟨hv, -, -, rfl | ⟨rfl, hl, h3⟩⟩ := hc
  · exact ⟨by rw [← hv], .inl ⟨hi, rfl, hx, rfl, rfl⟩⟩
  · have hnil : s.rx = [] := List.length_eq_zero_iff.mp (Nat.lt_one_iff.mp hx)
    have hb : s.rxBytes = s.decodeBytes := by simp [State.decodeBytes, hi, hnil]
    exact ⟨by rw [← hv], .inr ⟨hi, hnil, hb, hl, h3⟩⟩

/-- Wherever a legal block reads, a `DECODE` that stays held leaves the step that `PHASE` selects without effect. -/
theorem ownStep_of_held_read {s : State} (h : Legal s) {n : Nat} (hi : s.inFlight = some (.read n))
    (hd : s.decodeRun = .held s) : s.ownStep = s := by
  have hrest : s.atRest = s := by rw [atRest_eq_hostDecode (by simp [hi]), State.hostDecode, hd]
  unfold State.ownStep
  cases hp : s.phase
  case idle => exact hrest
  case awaitIdent => simp only [State.stepAwaitIdent, hd]
  case identFound => exact absurd hi (h.not_read (.inl hp) n)
  case buildingWriteCommand => exact absurd hi (h.not_read (.inr hp) n)
  case awaitConfirm => simp only [State.stepAwaitConfirm, hd]
  case done => exact hrest

/-- Settles O41: in either hold the block's own step, the only one there is, leads to the same state. -/
theorem holdIsForEver : Obligations.HoldIsForEver := by
  intro s n k h hn hheld
  have hown : s.ownStep = s := by
    obtain ⟨hi, hx, he⟩ | ⟨hi, ha⟩ := hheld
    · exact ownStep_of_held_read h hi ((h.heldReading_self hi hx).decodeRun he)
    · obtain ⟨rfl, hp, hb⟩ := h.held_write hi
      exact ownStep_of_held_write hp hi hb ha
  have hstep : step s = .next s := by rw [step_eq_ownStep (.inl hn), popInput_none hn, hown]
  exact run_of_step_self hstep k

end Sys2Proof.Machine
end

section
/-! SUPPORT. The first `DECODE` of a run on a clean stream, where it ends with the bytes that reach it first: it has read the header
of the frame that was sent (spec/70_reset_and_hazards.md R274, R279). -/

namespace Sys2Proof.Machine

/-- What has come of bytes that start with a frame, or begin one, does so too. -/
theorem StartsWithFrame.of_append {bytes more frame : List Byte} (h : StartsWithFrame (bytes ++ more) frame) :
    StartsWithFrame bytes frame := by
  have hb : bytes <+: bytes ++ more := List.prefix_append bytes more
  obtain h | h := h
  · exact .inl (hb.trans h)
  · exact List.prefix_or_prefix_of_prefix hb h

/-- A stream that does not run out has the 7 bytes of the first read (spec/41_codec.md R165). -/
theorem seven_bytes_of_decodeStream {bytes : List Byte} {x : RxEnd} (h : decodeStream bytes x ≠ runsOut x) :
    ∃ b0 b1 b2 b3 b4 b5 b6 rest, bytes = b0 :: b1 :: b2 :: b3 :: b4 :: b5 :: b6 :: rest :=
  seven_bytes fun h7 => h (decodeStream_runsOut h7 x)

section
variable {bytes pl : List Byte} {fn : Byte} {addr : Addr} {da : DataAddr} {x : RxEnd} {rest : List Byte}
  (h : StartsWithFrame bytes (builtFrame fn addr da pl))
include h

/-- A frame that such bytes give has the header of the one that was sent (spec/30_encoding.md R100). -/
theorem StartsWithFrame.decodeStream_frame {f : Frame} (hs : decodeStream bytes x = .frame f rest) :
    f.start = 0x55#8 ∧ f.deviceAddr = addr ∧ f.function = fn := by
  obtain ⟨b0, b1, b2, b3, b4, b5, b6, bs, rfl⟩ := seven_bytes_of_decodeStream (x := x) (by rw [hs]; cases x <;> nofun)
  obtain ⟨rfl, rfl, rfl, rfl, -⟩ := h.header
  simpa using decodeStream_frame_header hs

/-- A function that is refused there is that of the frame that was sent (spec/41_codec.md R166). -/
theorem StartsWithFrame.decodeStream_unexpected {fn' : Byte}
    (hs : decodeStream bytes x = .error (.unexpectedFunction fn') rest) : fn' = fn := by
  obtain ⟨b0, b1, b2, b3, b4, b5, b6, bs, rfl⟩ := seven_bytes_of_decodeStream (x := x) (by rw [hs]; cases x <;> nofun)
  obtain ⟨-, -, -, rfl, -⟩ := h.header
  exact decodeStream_unexpected_function hs

end

/-- A run that has ended on a function which is not admitted holds that function (spec/10_state.md R34). -/
theorem EndsOn.unexpectedFunction {s t : State} {o : OutcomeCode} {e : DecodeError} (h : EndsOn s t o e)
    (hc : t.cause = .unexpectedFunction) : e = .unexpectedFunction t.rxFn := by
  have he := h.latchedError
  simp only [State.latchedError, hc] at he
  exact (Option.some.inj he).symm

theorem HeldReading.cause {s t : State} (h : HeldReading s t) : t.cause = s.cause := (congrArg State.cause h.1 :)

theorem Returns.cause {s t : State} {f : Frame} {rest : List Byte} (h : Returns s t f rest) : t.cause = s.cause :=
  (congrArg State.cause h.2 :)

/-- What `u` shows of a frame that has been read is that of the frame sent with function `fn` and address `addr`: an address
that was captured (spec/42_handshake.md R195), and a function that was refused (R198). -/
structure ShowsFrameSent (u : State) (fn : Byte) (addr : Addr) : Prop where
  captured : u.phase = .identFound → u.disc = addr ∧ u.frameView.start = 0x55#8 ∧ u.frameView.function = fn
  refused : u.cause = .unexpectedFunction → u.rxFn = fn

/-- `AwaitIdent` on bytes that start with a frame, or begin one, by the ends of their `DECODE` (R195 to R198). -/
theorem stepAwaitIdent_showsFrameSent {s : State} (hw : StageFits s) (hp : s.phase = .awaitIdent)
    (hc : s.cause ≠ .unexpectedFunction) {fn : Byte} {addr : Addr} {da : DataAddr} {pl : List Byte}
    (h : StartsWithFrame s.decodeBytes (builtFrame fn addr da pl)) : ShowsFrameSent s.stepAwaitIdent fn addr := by
  cases hs : decodeStream s.decodeBytes s.rxEnd with
  | frame f rest =>
    obtain ⟨t, hr, ht⟩ := stepAwaitIdent_frame hw hs
    obtain ⟨hstart, haddr, hfn⟩ := h.decodeStream_frame hs
    have hview : s.stepAwaitIdent.frameView = f := by rw [ht]; exact hr.1
    have hcause : s.stepAwaitIdent.cause = s.cause := by rw [ht]; exact hr.cause
    exact ⟨fun _ => ⟨by rw [ht]; exact haddr, hview ▸ hstart, hview ▸ hfn⟩, fun hu => absurd (hcause ▸ hu) hc⟩
  | error e rest =>
    obtain ⟨he, -⟩ := stepAwaitIdent_error hw hs
    refine ⟨fun hu => (nomatch he.phase.symm.trans hu), fun hu => ?_⟩
    rw [he.unexpectedFunction hu] at hs
    exact h.decodeStream_unexpected hs
  | short =>
    obtain ⟨he, -⟩ := stepAwaitIdent_short hw hs
    exact ⟨fun hu => (nomatch he.phase.symm.trans hu), fun hu => (nomatch he.unexpectedFunction hu)⟩
  | held =>
    obtain ⟨hh, -⟩ := stepAwaitIdent_held hw hs
    exact ⟨fun hu => (nomatch (hh.phase.trans hp).symm.trans hu), fun hu => absurd (hh.cause ▸ hu) hc⟩

/-- The step that receives the first bytes of a run is that of `AwaitIdent` with them in the stream (spec/20_memory.md R83). -/
theorem step_openSession_received {s : State} {bytes : List Byte} {rest : List Input} (hb : s.inbox = .received bytes :: rest)
    (target : Option Addr) :
    step (s.openSession target) =
      .next (State.stepAwaitIdent { s.openSession target with rx := s.rx ++ bytes, inbox := rest }) := by
  obtain ⟨hn, hq⟩ := nextInput_cons (s := s.openSession target) hb rfl
  rw [step_received hn, hq, receive_awaitIdent rfl]
  rfl

/-- Settles O40: what reaches the run's first `DECODE` in that step starts with the frame that was sent. -/
theorem cleanStreamIsReadAtTheFrame : Obligations.CleanStreamIsReadAtTheFrame := by
  intro s target bytes rest hf hclean hb
  obtain ⟨fn, addr, da, pl, hen, harriving⟩ := hclean.atBoundary
  have hsplit : s.arriving = bytes ++ rest.flatMap Input.bytes := by simp [State.arriving, hb, Input.bytes]
  have hbytes : StartsWithFrame bytes (builtFrame fn addr da pl) := (hsplit ▸ harriving).of_append
  refine ⟨fn, addr, da, pl, hen, hbytes, _, _, exec_hsStart_free hf target, step_openSession_received hb target, ?_⟩
  rw [hclean.noneEarlier, List.nil_append]
  have hi : State.inFlight { s.openSession target with rx := bytes, inbox := rest } ≠ some (.read 1) := hf.notExtra
  obtain ⟨captured, refused⟩ := stepAwaitIdent_showsFrameSent (stageFits_of_notExtra hi) rfl nofun
    (by rw [decodeBytes_notExtra hi]; exact hbytes)
  exact ⟨captured, refused⟩

end Sys2Proof.Machine
end
